-- ==== Sys2Proof/Word.lean ====
section
/-! DEFINITION. The widths of the machine: 16-bit words, 36-bit accumulators, the 32-bit product. -/

namespace Sys2Proof

/-- A data word, an instruction word, a data or program address: all 16 bits (20_memory.md R80). -/
abbrev Word := BitVec 16

/-- A 36-bit accumulator value, bits 35..32 the extension, 31..16 the high part, 15..0 the low part (R21). -/
abbrev Acc := BitVec 36

end Sys2Proof
end

