-- ==== Sys2Proof/Config.lean ====
section
/-! DEFINITION. What the spec leaves to the chip or leaves open: the free values (opaque: nothing can be proved of
one of them), and the values the model names where the spec gives none (each with its entry of notes/assumptions). -/

namespace Sys2Proof.Config

/-- What bits 9..8 of st1 read as: "written as zero, read as don't care" (R41). Log 6. -/
opaque freeSt1 : Nat → BitVec 2
/-- What bit 12 of st2 reads as (R42). Log 6. -/
opaque freeSt2 : Nat → BitVec 1
/-- What bits 15..8 of icr read as (R43). Log 6. -/
opaque freeIcr : Nat → BitVec 8
/-- The result of a shift by sv with a count outside -36..36: UNSPECIFIED (R291). Log 7. -/
opaque freeShift : Nat → Acc
/-- The flags Z, M, N, V, C, E, L (bits 6..0 in this order) of such a shift: UNSPECIFIED (R291). Log 7. -/
opaque freeShiftFlags : Nat → BitVec 7
/-- The rJ operand of a dual-operand instruction whose addresses are not in their spaces (R86). Log 8. -/
opaque freeDualY : Nat → Word
/-- The rI operand of a dual-operand instruction whose addresses are not in their spaces (R86). Log 8. -/
opaque freeDualX : Nat → Word
/-- The pointer left by `movp (rN), (rI)` when both fields name one register (R371). Log 9. -/
opaque freePointer : Nat → Word
/-- What a device answers when the core reads a data address or, by `movp`, a program address of it, or an extX that is one:
the off-core logic supplies it at each read (R38, R83, R85, U29). Logs 22, 61. -/
opaque freeDevice : Nat → Word

/-- DESIGN CHOICE (log 2): what a byte of memory that nothing has written reads as. -/
def unlistedByte : BitVec 8 := 0

/-- DESIGN CHOICE (log 5): the lower boundary setting of the chip after State.reset (R82 gives no value). -/
def xramconf : BitVec 6 := 16
/-- DESIGN CHOICE (log 5): the upper boundary setting of the chip after State.reset (R82 gives no value). -/
def yramconf : BitVec 6 := 48

end Sys2Proof.Config
end

