-- ==== Sys2Proof/Syntax.lean ====
section
/-! DEFINITION. The instructions: one constructor of `Instr` per row of spec/opcode_table.json, over the field types of
30_encoding.md section 2. A constructor carries the fields the decoder reads, never a bit it ignores. -/

namespace Sys2Proof

/-- The accumulators a0, a1: the one-bit selector `A` (R132). -/
inductive AX where
  | a0 | a1
  deriving DecidableEq, Repr

/-- The accumulators b0, b1: the one-bit selector `B` (R132). -/
inductive BX where
  | b0 | b1
  deriving DecidableEq, Repr

/-- The four accumulators: the two-bit selector `AB` (R133, R134). -/
inductive AB where
  | b0 | b1 | a0 | a1
  deriving DecidableEq, Repr

/-- The eight accumulator parts: the three-bit selector `ABLH` (R135). -/
inductive AccPart where
  | b0l | b0h | b1l | b1h | a0l | a0h | a1l | a1h
  deriving DecidableEq, Repr

/-- Post-modification `mm`, `ii`, `jj` (R141): none, +1, -1, +step. -/
inductive PostMod where
  | none | inc | dec | step
  deriving DecidableEq, Repr

/-- The address registers of a plain `nnn` field (R137); codes 110 and 111 are not defined. -/
inductive RN where
  | r0 | r1 | r2 | r3 | r4 | r5
  deriving DecidableEq, Repr

/-- The registers of an `nnn` (rN*) field (R138). -/
inductive RNStar where
  | r0 | r1 | r2 | r3 | r4 | r5 | rb | y
  deriving DecidableEq, Repr

/-- The registers rI of a `qq` field (R142). -/
inductive RI where
  | r0 | r1 | r2 | r3
  deriving DecidableEq, Repr

/-- The registers rJ of a `w` field (R142). -/
inductive RJ where
  | r4 | r5
  deriving DecidableEq, Repr

/-- The thirty-two register codes of `rrrrr` (R139); `p` is the shifted p as a source and ph as a destination. -/
inductive Reg where
  | r0 | r1 | r2 | r3 | r4 | r5 | rb | y | st0 | st1 | st2 | p | pc | sp | cfgi | cfgj | b0h | b1h | b0l | b1l | ext0 | ext1 | ext2 | ext3 | a0 | a1 | a0l | a1l | a0h | a1h | lc | sv
  deriving DecidableEq, Repr

/-- The conditions of `cccc` (R143); `always` is the source's `true`. -/
inductive Cond where
  | always | eq | neq | gt | ge | lt | le | nn | cSet | vSet | eSet | lSet | nr | niu0 | iu0 | iu1
  deriving DecidableEq, Repr

/-- The `f` bit of `max` and `maxd` (R149). -/
inductive MaxCond where
  | ge | gt
  deriving DecidableEq, Repr

/-- The `f` bit of `min` (R149). -/
inductive MinCond where
  | le | lt
  deriving DecidableEq, Repr

/-- The `XX` field of `lim` (R149): source, then destination. -/
inductive LimOp where
  | a0 | a0a1 | a1a0 | a1
  deriving DecidableEq, Repr

/-- The fourteen options of `swap` (R149, R390); codes 1110 and 1111 are reserved. -/
inductive SwapOp where
  | a0b0 | a0b1 | a1b0 | a1b1 | a0b0a1b1 | a0b1a1b0 | a0b0a1 | a0b1a1 | a1b0a0 | a1b1a0 | b0a0b1 | b0a1b1 | b1a0b0 | b1a1b0
  deriving DecidableEq, Repr

/-- The `NN` field of `movr (rN), abXh` (R149). -/
inductive MovrPtr where
  | r0 | r4 | r2 | r5
  deriving DecidableEq, Repr

/-- The user-defined registers ext0..ext3 (R149). -/
inductive ExtReg where
  | ext0 | ext1 | ext2 | ext3
  deriving DecidableEq, Repr

/-- The register code of a whole accumulator aX (R139). -/
def AX.reg : AX → Reg
  | .a0 => .a0
  | .a1 => .a1

/-- aX among the four accumulators. -/
def AX.ab : AX → AB
  | .a0 => .a0
  | .a1 => .a1

/-- aX', the other accumulator of the pair (00_scope.md R11). -/
def AX.other : AX → AX
  | .a0 => .a1
  | .a1 => .a0

/-- bX among the four accumulators. -/
def BX.ab : BX → AB
  | .b0 => .b0
  | .b1 => .b1

/-- The register code of rN (R137, R139). -/
def RN.reg : RN → Reg
  | .r0 => .r0 | .r1 => .r1 | .r2 => .r2 | .r3 => .r3 | .r4 => .r4 | .r5 => .r5

/-- The register code of rN* (R138, R139). -/
def RNStar.reg : RNStar → Reg
  | .r0 => .r0 | .r1 => .r1 | .r2 => .r2 | .r3 => .r3 | .r4 => .r4 | .r5 => .r5 | .rb => .rb | .y => .y

/-- rI as an address register. -/
def RI.rn : RI → RN
  | .r0 => .r0 | .r1 => .r1 | .r2 => .r2 | .r3 => .r3

/-- rJ as an address register. -/
def RJ.rn : RJ → RN
  | .r4 => .r4 | .r5 => .r5

/-- The pointer of `movr (rN), abXh` as an address register (R149). -/
def MovrPtr.rn : MovrPtr → RN
  | .r0 => .r0 | .r4 => .r4 | .r2 => .r2 | .r5 => .r5

/-- The register code of an extX (R139). -/
def ExtReg.reg : ExtReg → Reg
  | .ext0 => .ext0 | .ext1 => .ext1 | .ext2 => .ext2 | .ext3 => .ext3

/-- Not a0, a1 (36 bits) and not p: a register that can be a 16-bit operand (R62, R159). -/
def Reg.is16 (r : Reg) : Bool := r != .a0 && r != .a1 && r != .p

/-- The registers a bit-field operation accepts: not a0, a1, p, pc (R295). -/
def Reg.isBitField (r : Reg) : Bool := r.is16 && r != .pc

/-- The registers `exp` accepts: not p, not pc (R311). -/
def Reg.isExpSource (r : Reg) : Bool := r != .p && r != .pc

/-- The instructions of spec/opcode_table.json: a constructor for each row, and for eight rows whose fields are all
accumulator or option selectors a constructor for each value of the fields (the Lean runtime numbers at most 244
constructors with fields). The constructors without fields come last, for the same reason. -/
inductive Instr where
  /-- `movr (rN),abXh`, pattern `100010AB011NN1MM` (R376). -/
  | movrIndPart (d : AB) (q : MovrPtr) (m : PostMod)
  /-- `or direct address, aX`, pattern `1010000Adddddddd` (R206). -/
  | orDirect (d : AX) (a : BitVec 8)
  /-- `or (rN), aX`, pattern `1000000A100mmnnn` (R206). -/
  | orInd (d : AX) (n : RN) (m : PostMod)
  /-- `or REG, aX`, pattern `1000000A101rrrrr` (R206). -/
  | orReg (d : AX) (r : Reg)
  /-- `and direct address, aX`, pattern `1010001Adddddddd` (R207). -/
  | andDirect (d : AX) (a : BitVec 8)
  /-- `and (rN), aX`, pattern `1000001A100mmnnn` (R207). -/
  | andInd (d : AX) (n : RN) (m : PostMod)
  /-- `and REG, aX`, pattern `1000001A101rrrrr` (R207). -/
  | andReg (d : AX) (r : Reg)
  /-- `xor direct address, aX`, pattern `1010010Adddddddd` (R208). -/
  | xorDirect (d : AX) (a : BitVec 8)
  /-- `xor (rN), aX`, pattern `1000010A100mmnnn` (R208). -/
  | xorInd (d : AX) (n : RN) (m : PostMod)
  /-- `xor REG, aX`, pattern `1000010A101rrrrr` (R208). -/
  | xorReg (d : AX) (r : Reg)
  /-- `add direct address, aX`, pattern `1010011Adddddddd` (R203). -/
  | addDirect (d : AX) (a : BitVec 8)
  /-- `add (rN), aX`, pattern `1000011A100mmnnn` (R203). -/
  | addInd (d : AX) (n : RN) (m : PostMod)
  /-- `add REG, aX`, pattern `1000011A101rrrrr` (R203). -/
  | addReg (d : AX) (r : Reg)
  /-- `tst0 aXl, direct address`, pattern `1010100Adddddddd` (R304). -/
  | tst0Direct (d : AX) (a : BitVec 8)
  /-- `tst0 aXl, (rN)`, pattern `1000100A100mmnnn` (R304). -/
  | tst0Ind (d : AX) (n : RN) (m : PostMod)
  /-- `tst0 aXl, REG`, pattern `1000100A101rrrrr` (R304). -/
  | tst0Reg (d : AX) (r : Reg)
  /-- `tst1 aXl, direct address`, pattern `1010101Adddddddd` (R306). -/
  | tst1Direct (d : AX) (a : BitVec 8)
  /-- `tst1 aXl, (rN)`, pattern `1000101A100mmnnn` (R306). -/
  | tst1Ind (d : AX) (n : RN) (m : PostMod)
  /-- `tst1 aXl, REG`, pattern `1000101A101rrrrr` (R306). -/
  | tst1Reg (d : AX) (r : Reg)
  /-- `cmp direct address, aX`, pattern `1010110Adddddddd` (R205). -/
  | cmpDirect (d : AX) (a : BitVec 8)
  /-- `cmp (rN), aX`, pattern `1000110A100mmnnn` (R205). -/
  | cmpInd (d : AX) (n : RN) (m : PostMod)
  /-- `cmp REG, aX`, pattern `1000110A101rrrrr` (R205). -/
  | cmpReg (d : AX) (r : Reg)
  /-- `sub direct address, aX`, pattern `1010111Adddddddd` (R204). -/
  | subDirect (d : AX) (a : BitVec 8)
  /-- `sub (rN), aX`, pattern `1000111A100mmnnn` (R204). -/
  | subInd (d : AX) (n : RN) (m : PostMod)
  /-- `sub REG, aX`, pattern `1000111A101rrrrr` (R204). -/
  | subReg (d : AX) (r : Reg)
  /-- `msu y, direct address, aX`, pattern `1011000Adddddddd` (R270). -/
  | msuYDirect (d : AX) (a : BitVec 8)
  /-- `msu y, (rN), aX`, pattern `1001000A100mmnnn` (R270). -/
  | msuYInd (d : AX) (n : RN) (m : PostMod)
  /-- `msu y, REG, aX`, pattern `1001000A101rrrrr` (R270). -/
  | msuYReg (d : AX) (r : Reg)
  /-- `addh direct address, aX`, pattern `1011001Adddddddd` (R209). -/
  | addhDirect (d : AX) (a : BitVec 8)
  /-- `addh (rN), aX`, pattern `1001001A100mmnnn` (R209). -/
  | addhInd (d : AX) (n : RN) (m : PostMod)
  /-- `addh REG, aX`, pattern `1001001A101rrrrr` (R209). -/
  | addhReg (d : AX) (r : Reg)
  /-- `addl direct address, aX`, pattern `1011010Adddddddd` (R211). -/
  | addlDirect (d : AX) (a : BitVec 8)
  /-- `addl (rN), aX`, pattern `1001010A100mmnnn` (R211). -/
  | addlInd (d : AX) (n : RN) (m : PostMod)
  /-- `addl REG, aX`, pattern `1001010A101rrrrr` (R211). -/
  | addlReg (d : AX) (r : Reg)
  /-- `subh direct address, aX`, pattern `1011011Adddddddd` (R210). -/
  | subhDirect (d : AX) (a : BitVec 8)
  /-- `subh (rN), aX`, pattern `1001011A100mmnnn` (R210). -/
  | subhInd (d : AX) (n : RN) (m : PostMod)
  /-- `subh REG, aX`, pattern `1001011A101rrrrr` (R210). -/
  | subhReg (d : AX) (r : Reg)
  /-- `subl direct address, aX`, pattern `1011100Adddddddd` (R212). -/
  | sublDirect (d : AX) (a : BitVec 8)
  /-- `subl (rN), aX`, pattern `1001100A100mmnnn` (R212). -/
  | sublInd (d : AX) (n : RN) (m : PostMod)
  /-- `subl REG, aX`, pattern `1001100A101rrrrr` (R212). -/
  | sublReg (d : AX) (r : Reg)
  /-- `sqr direct address`, pattern `1011101Adddddddd` (R272). -/
  | sqrDirect (a : BitVec 8)
  /-- `sqr (rN)`, pattern `1001101A100mmnnn` (R272). -/
  | sqrInd (n : RN) (m : PostMod)
  /-- `sqr REG`, pattern `1001101A101rrrrr` (R272). -/
  | sqrReg (r : Reg)
  /-- `sqra direct address, aX`, pattern `1011110Adddddddd` (R273). -/
  | sqraDirect (d : AX) (a : BitVec 8)
  /-- `sqra (rN), aX`, pattern `1001110A100mmnnn` (R273). -/
  | sqraInd (d : AX) (n : RN) (m : PostMod)
  /-- `sqra REG, aX`, pattern `1001110A101rrrrr` (R273). -/
  | sqraReg (d : AX) (r : Reg)
  /-- `cmpu direct address, aX`, pattern `1011111Adddddddd` (R213). -/
  | cmpuDirect (d : AX) (a : BitVec 8)
  /-- `cmpu (rN), aX`, pattern `1001111A100mmnnn` (R213). -/
  | cmpuInd (d : AX) (n : RN) (m : PostMod)
  /-- `cmpu REG, aX`, pattern `1001111A101rrrrr` (R213). -/
  | cmpuReg (d : AX) (r : Reg)
  /-- `or #unsigned short immediate, aX`, pattern `1100000Avvvvvvvv` (R206). -/
  | orShort (d : AX) (v : BitVec 8)
  /-- `or ##long immediate, aX`, pattern `1000000A110.....` (R206). -/
  | orLong (d : AX) (v : Word)
  /-- `or (rb+#offset7), aX`, pattern `0100000A0ooooooo` (R206). -/
  | orIdx7 (d : AX) (o : BitVec 7)
  /-- `or (rb+##offset), aX`, pattern `1101010A11011000` (R206). -/
  | orIdx16 (d : AX) (v : Word)
  /-- `or [##direct address], aX`, pattern `1101010A11111000` (R206). -/
  | orDirLong (d : AX) (v : Word)
  /-- `and #unsigned short immediate, aX`, pattern `1100001Avvvvvvvv` (R207). -/
  | andShort (d : AX) (v : BitVec 8)
  /-- `and ##long immediate, aX`, pattern `1000001A110.....` (R207). -/
  | andLong (d : AX) (v : Word)
  /-- `and (rb+#offset7), aX`, pattern `0100001A0ooooooo` (R207). -/
  | andIdx7 (d : AX) (o : BitVec 7)
  /-- `and (rb+##offset), aX`, pattern `1101010A11011001` (R207). -/
  | andIdx16 (d : AX) (v : Word)
  /-- `and [##direct address], aX`, pattern `1101010A11111001` (R207). -/
  | andDirLong (d : AX) (v : Word)
  /-- `xor #unsigned short immediate, aX`, pattern `1100010Avvvvvvvv` (R208). -/
  | xorShort (d : AX) (v : BitVec 8)
  /-- `xor ##long immediate, aX`, pattern `1000010A110.....` (R208). -/
  | xorLong (d : AX) (v : Word)
  /-- `xor (rb+#offset7), aX`, pattern `0100010A0ooooooo` (R208). -/
  | xorIdx7 (d : AX) (o : BitVec 7)
  /-- `xor (rb+##offset), aX`, pattern `1101010A11011010` (R208). -/
  | xorIdx16 (d : AX) (v : Word)
  /-- `xor [##direct address], aX`, pattern `1101010A11111010` (R208). -/
  | xorDirLong (d : AX) (v : Word)
  /-- `add #unsigned short immediate, aX`, pattern `1100011Avvvvvvvv` (R203). -/
  | addShort (d : AX) (v : BitVec 8)
  /-- `add ##long immediate, aX`, pattern `1000011A110.....` (R203). -/
  | addLong (d : AX) (v : Word)
  /-- `add (rb+#offset7), aX`, pattern `0100011A0ooooooo` (R203). -/
  | addIdx7 (d : AX) (o : BitVec 7)
  /-- `add (rb+##offset), aX`, pattern `1101010A11011011` (R203). -/
  | addIdx16 (d : AX) (v : Word)
  /-- `add [##direct address], aX`, pattern `1101010A11111011` (R203). -/
  | addDirLong (d : AX) (v : Word)
  /-- `cmp #unsigned short immediate, aX`, pattern `1100110Avvvvvvvv` (R205). -/
  | cmpShort (d : AX) (v : BitVec 8)
  /-- `cmp ##long immediate, aX`, pattern `1000110A110.....` (R205). -/
  | cmpLong (d : AX) (v : Word)
  /-- `cmp (rb+#offset7), aX`, pattern `0100110A0ooooooo` (R205). -/
  | cmpIdx7 (d : AX) (o : BitVec 7)
  /-- `cmp (rb+##offset), aX`, pattern `1101010A11011110` (R205). -/
  | cmpIdx16 (d : AX) (v : Word)
  /-- `cmp [##direct address], aX`, pattern `1101010A11111110` (R205). -/
  | cmpDirLong (d : AX) (v : Word)
  /-- `sub #unsigned short immediate, aX`, pattern `1100111Avvvvvvvv` (R204). -/
  | subShort (d : AX) (v : BitVec 8)
  /-- `sub ##long immediate, aX`, pattern `1000111A110.....` (R204). -/
  | subLong (d : AX) (v : Word)
  /-- `sub (rb+#offset7), aX`, pattern `0100111A0ooooooo` (R204). -/
  | subIdx7 (d : AX) (o : BitVec 7)
  /-- `sub (rb+##offset), aX`, pattern `1101010A11011111` (R204). -/
  | subIdx16 (d : AX) (v : Word)
  /-- `sub [##direct address], aX`, pattern `1101010A11111111` (R204). -/
  | subDirLong (d : AX) (v : Word)
  /-- `shr aX [, cond]`, pattern `011A01110000cccc` (R219). -/
  | shrA (d : AX) (c : Cond)
  /-- `shr4 aX [, cond]`, pattern `011A01110001cccc` (R220). -/
  | shr4A (d : AX) (c : Cond)
  /-- `shl aX [, cond]`, pattern `011A01110010cccc` (R221). -/
  | shlA (d : AX) (c : Cond)
  /-- `shl4 aX [, cond]`, pattern `011A01110011cccc` (R222). -/
  | shl4A (d : AX) (c : Cond)
  /-- `ror aX [, cond]`, pattern `011A01110100cccc` (R223). -/
  | rorA (d : AX) (c : Cond)
  /-- `rol aX [, cond]`, pattern `011A01110101cccc` (R224). -/
  | rolA (d : AX) (c : Cond)
  /-- `clr aX [, cond]`, pattern `011A01110110cccc` (R225). -/
  | clrA (d : AX) (c : Cond)
  /-- `not aX [, cond]`, pattern `011A01111000cccc` (R226). -/
  | notA (d : AX) (c : Cond)
  /-- `neg aX [, cond]`, pattern `011A01111001cccc` (R227). -/
  | negA (d : AX) (c : Cond)
  /-- `rnd aX [, cond]`, pattern `011A01111010cccc` (R228). -/
  | rndA (d : AX) (c : Cond)
  /-- `pacr aX [, cond]`, pattern `011A01111011cccc` (R229). -/
  | pacrA (d : AX) (c : Cond)
  /-- `clrr aX [, cond]`, pattern `011A01111100cccc` (R230). -/
  | clrrA (d : AX) (c : Cond)
  /-- `inc aX [, cond]`, pattern `011A01111101cccc` (R231). -/
  | incA (d : AX) (c : Cond)
  /-- `dec aX [, cond]`, pattern `011A01111110cccc` (R232). -/
  | decA (d : AX) (c : Cond)
  /-- `copy aX [, cond]`, pattern `011A01111111cccc` (R233). -/
  | copyA (d : AX) (c : Cond)
  /-- `norm`, pattern `1001010A11.mmnnn` (R240). -/
  | norm (d : AX) (n : RN) (m : PostMod)
  /-- `divs`, pattern `0000111Adddddddd` (R241). -/
  | divs (d : AX) (a : BitVec 8)
  /-- `set ##long immediate, (rN)`, pattern `10000000111mmnnn` (R301). -/
  | setInd (n : RN) (m : PostMod) (v : Word)
  /-- `set ##long immediate, REG`, pattern `10000001111rrrrr` (R301). -/
  | setReg (r : Reg) (v : Word)
  /-- `set ##long immediate, direct address`, pattern `11100001dddddddd` (R301). -/
  | setDirect (a : BitVec 8) (v : Word)
  /-- `rst ##long immediate, (rN)`, pattern `10000010111mmnnn` (R302). -/
  | rstInd (n : RN) (m : PostMod) (v : Word)
  /-- `rst ##long immediate, REG`, pattern `10000011111rrrrr` (R302). -/
  | rstReg (r : Reg) (v : Word)
  /-- `rst ##long immediate, direct address`, pattern `11100011dddddddd` (R302). -/
  | rstDirect (a : BitVec 8) (v : Word)
  /-- `chng ##long immediate, (rN)`, pattern `10000100111mmnnn` (R303). -/
  | chngInd (n : RN) (m : PostMod) (v : Word)
  /-- `chng ##long immediate, REG`, pattern `10000101111rrrrr` (R303). -/
  | chngReg (r : Reg) (v : Word)
  /-- `chng ##long immediate, direct address`, pattern `11100101dddddddd` (R303). -/
  | chngDirect (a : BitVec 8) (v : Word)
  /-- `addv ##long immediate, (rN)`, pattern `10000110111mmnnn` (R214). -/
  | addvInd (n : RN) (m : PostMod) (v : Word)
  /-- `addv ##long immediate, REG`, pattern `10000111111rrrrr` (R214). -/
  | addvReg (r : Reg) (v : Word)
  /-- `addv ##long immediate, direct address`, pattern `11100111dddddddd` (R214). -/
  | addvDirect (a : BitVec 8) (v : Word)
  /-- `tst0 ##long immediate, (rN)`, pattern `10001000111mmnnn` (R305). -/
  | tst0LongInd (n : RN) (m : PostMod) (v : Word)
  /-- `tst0 ##long immediate, REG`, pattern `10001001111rrrrr` (R305). -/
  | tst0LongReg (r : Reg) (v : Word)
  /-- `tst0 ##long immediate, direct address`, pattern `11101001dddddddd` (R305). -/
  | tst0LongDirect (a : BitVec 8) (v : Word)
  /-- `tst1 ##long immediate, (rN)`, pattern `10001010111mmnnn` (R307). -/
  | tst1LongInd (n : RN) (m : PostMod) (v : Word)
  /-- `tst1 ##long immediate, REG`, pattern `10001011111rrrrr` (R307). -/
  | tst1LongReg (r : Reg) (v : Word)
  /-- `tst1 ##long immediate, direct address`, pattern `11101011dddddddd` (R307). -/
  | tst1LongDirect (a : BitVec 8) (v : Word)
  /-- `cmpv ##long immediate, (rN)`, pattern `10001100111mmnnn` (R216). -/
  | cmpvInd (n : RN) (m : PostMod) (v : Word)
  /-- `cmpv ##long immediate, REG`, pattern `10001101111rrrrr` (R216). -/
  | cmpvReg (r : Reg) (v : Word)
  /-- `cmpv ##long immediate, direct address`, pattern `11101101dddddddd` (R216). -/
  | cmpvDirect (a : BitVec 8) (v : Word)
  /-- `subv ##long immediate, (rN)`, pattern `10001110111mmnnn` (R215). -/
  | subvInd (n : RN) (m : PostMod) (v : Word)
  /-- `subv ##long immediate, REG`, pattern `10001111111rrrrr` (R215). -/
  | subvReg (r : Reg) (v : Word)
  /-- `subv ##long immediate, direct address`, pattern `11101111dddddddd` (R215). -/
  | subvDirect (a : BitVec 8) (v : Word)
  /-- `maxd`, pattern `100000fA011mm...` (R247). -/
  | maxd (c : MaxCond) (d : AX) (m : PostMod)
  /-- `max`, pattern `100001fA011mm...` (R246). -/
  | max (c : MaxCond) (d : AX) (m : PostMod)
  /-- `min`, pattern `10001.fA011mm...` (R248). -/
  | min (c : MinCond) (d : AX) (m : PostMod)
  /-- `mpy y, (rN)`, pattern `1000A000001mmnnn` (R262). -/
  | mpyYInd (n : RN) (m : PostMod)
  /-- `mpy y, REG`, pattern `1000A000010rrrrr` (R262). -/
  | mpyYReg (r : Reg)
  /-- `mpy (rJ), (rI)`, pattern `1101A0000jjiiwqq` (R262). -/
  | mpyDual (j : RJ) (jm : PostMod) (i : RI) (im : PostMod)
  /-- `mpy (rN), ##long immediate`, pattern `1000A000000mmnnn` (R262). -/
  | mpyLong (n : RN) (m : PostMod) (v : Word)
  /-- `mpysu y, (rN)`, pattern `1000A001001mmnnn` (R263). -/
  | mpysuYInd (n : RN) (m : PostMod)
  /-- `mpysu y, REG`, pattern `1000A001010rrrrr` (R263). -/
  | mpysuYReg (r : Reg)
  /-- `mpysu (rJ), (rI)`, pattern `1101A0010jjiiwqq` (R263). -/
  | mpysuDual (j : RJ) (jm : PostMod) (i : RI) (im : PostMod)
  /-- `mpysu (rN), ##long immediate`, pattern `1000A001000mmnnn` (R263). -/
  | mpysuLong (n : RN) (m : PostMod) (v : Word)
  /-- `mac y, (rN), aX`, pattern `1000A010001mmnnn` (R264). -/
  | macYInd (d : AX) (n : RN) (m : PostMod)
  /-- `mac y, REG, aX`, pattern `1000A010010rrrrr` (R264). -/
  | macYReg (d : AX) (r : Reg)
  /-- `mac (rJ), (rI), aX`, pattern `1101A0100jjiiwqq` (R264). -/
  | macDual (d : AX) (j : RJ) (jm : PostMod) (i : RI) (im : PostMod)
  /-- `mac (rN), ##long immediate, aX`, pattern `1000A010000mmnnn` (R264). -/
  | macLong (d : AX) (n : RN) (m : PostMod) (v : Word)
  /-- `macus y, (rN), aX`, pattern `1000A011001mmnnn` (R266). -/
  | macusYInd (d : AX) (n : RN) (m : PostMod)
  /-- `macus y, REG, aX`, pattern `1000A011010rrrrr` (R266). -/
  | macusYReg (d : AX) (r : Reg)
  /-- `macus (rJ), (rI), aX`, pattern `1101A0110jjiiwqq` (R266). -/
  | macusDual (d : AX) (j : RJ) (jm : PostMod) (i : RI) (im : PostMod)
  /-- `macus (rN), ##long immediate, aX`, pattern `1000A011000mmnnn` (R266). -/
  | macusLong (d : AX) (n : RN) (m : PostMod) (v : Word)
  /-- `maa y, (rN), aX`, pattern `1000A100001mmnnn` (R268). -/
  | maaYInd (d : AX) (n : RN) (m : PostMod)
  /-- `maa y, REG, aX`, pattern `1000A100010rrrrr` (R268). -/
  | maaYReg (d : AX) (r : Reg)
  /-- `maa (rJ), (rI), aX`, pattern `1101A1000jjiiwqq` (R268). -/
  | maaDual (d : AX) (j : RJ) (jm : PostMod) (i : RI) (im : PostMod)
  /-- `maa (rN), ##long immediate, aX`, pattern `1000A100000mmnnn` (R268). -/
  | maaLong (d : AX) (n : RN) (m : PostMod) (v : Word)
  /-- `macuu y, (rN), aX`, pattern `1000A101001mmnnn` (R267). -/
  | macuuYInd (d : AX) (n : RN) (m : PostMod)
  /-- `macuu y, REG, aX`, pattern `1000A101010rrrrr` (R267). -/
  | macuuYReg (d : AX) (r : Reg)
  /-- `macuu (rJ), (rI), aX`, pattern `1101A1010jjiiwqq` (R267). -/
  | macuuDual (d : AX) (j : RJ) (jm : PostMod) (i : RI) (im : PostMod)
  /-- `macuu (rN), ##long immediate, aX`, pattern `1000A101000mmnnn` (R267). -/
  | macuuLong (d : AX) (n : RN) (m : PostMod) (v : Word)
  /-- `macsu y, (rN), aX`, pattern `1000A110001mmnnn` (R265). -/
  | macsuYInd (d : AX) (n : RN) (m : PostMod)
  /-- `macsu y, REG, aX`, pattern `1000A110010rrrrr` (R265). -/
  | macsuYReg (d : AX) (r : Reg)
  /-- `macsu (rJ), (rI), aX`, pattern `1101A1100jjiiwqq` (R265). -/
  | macsuDual (d : AX) (j : RJ) (jm : PostMod) (i : RI) (im : PostMod)
  /-- `macsu (rN), ##long immediate, aX`, pattern `1000A110000mmnnn` (R265). -/
  | macsuLong (d : AX) (n : RN) (m : PostMod) (v : Word)
  /-- `maasu y, (rN), aX`, pattern `1000A111001mmnnn` (R269). -/
  | maasuYInd (d : AX) (n : RN) (m : PostMod)
  /-- `maasu y, REG, aX`, pattern `1000A111010rrrrr` (R269). -/
  | maasuYReg (d : AX) (r : Reg)
  /-- `maasu (rJ), (rI), aX`, pattern `1101A1110jjiiwqq` (R269). -/
  | maasuDual (d : AX) (j : RJ) (jm : PostMod) (i : RI) (im : PostMod)
  /-- `maasu (rN), ##long immediate, aX`, pattern `1000A111000mmnnn` (R269). -/
  | maasuLong (d : AX) (n : RN) (m : PostMod) (v : Word)
  /-- `mpy y, direct address`, pattern `1110A000dddddddd` (R262). -/
  | mpyYDirect (a : BitVec 8)
  /-- `mac y, direct address, aX`, pattern `1110A010dddddddd` (R264). -/
  | macYDirect (d : AX) (a : BitVec 8)
  /-- `maa y, direct address, aX`, pattern `1110A100dddddddd` (R268). -/
  | maaYDirect (d : AX) (a : BitVec 8)
  /-- `macsu y, direct address, aX`, pattern `1110A110dddddddd` (R265). -/
  | macsuYDirect (d : AX) (a : BitVec 8)
  /-- `mpyi`, pattern `00001000vvvvvvvv` (R271). -/
  | mpyi (v : BitVec 8)
  /-- `msu (rN),##long`, pattern `1001000A11.mmnnn` (R270). -/
  | msuLong (d : AX) (n : RN) (m : PostMod) (v : Word)
  /-- `msu (rJ),(rI)`, pattern `1101000A1jjiiwqq` (R270). -/
  | msuDual (d : AX) (j : RJ) (jm : PostMod) (i : RI) (im : PostMod)
  /-- `tstb (rN)`, pattern `1001bbbb001mmnnn` (R308). -/
  | tstbInd (k : BitVec 4) (n : RN) (m : PostMod)
  /-- `tstb register`, pattern `1001bbbb000rrrrr` (R308). -/
  | tstbReg (k : BitVec 4) (r : Reg)
  /-- `tstb direct`, pattern `1111bbbbdddddddd` (R308). -/
  | tstbDirect (k : BitVec 4) (a : BitVec 8)
  /-- `shfc`, pattern `1101ab101AB0cccc` (R315). -/
  | shfc (src : AB) (d : AB) (c : Cond)
  /-- `shfi`, pattern `1001ab1AB1vvvvvv` (R316). -/
  | shfi (src : AB) (d : AB) (k : BitVec 6)
  /-- `shr bX [, cond]`, pattern `011B1111.000cccc` (R318). -/
  | shrB (d : BX) (c : Cond)
  /-- `shr4 bX [, cond]`, pattern `011B1111.001cccc` (R319). -/
  | shr4B (d : BX) (c : Cond)
  /-- `shl bX [, cond]`, pattern `011B1111.010cccc` (R320). -/
  | shlB (d : BX) (c : Cond)
  /-- `shl4 bX [, cond]`, pattern `011B1111.011cccc` (R321). -/
  | shl4B (d : BX) (c : Cond)
  /-- `ror bX [, cond]`, pattern `011B1111.100cccc` (R322). -/
  | rorB (d : BX) (c : Cond)
  /-- `rol bX [, cond]`, pattern `011B1111.101cccc` (R323). -/
  | rolB (d : BX) (c : Cond)
  /-- `clr bX [, cond]`, pattern `011B1111.110cccc` (R324). -/
  | clrB (d : BX) (c : Cond)
  /-- `exp (rN),aX`, pattern `1001100A01.mmnnn` (R311). -/
  | expIndA (d : AX) (n : RN) (m : PostMod)
  /-- `exp register,aX`, pattern `1001000A010rrrrr` (R311). -/
  | expRegA (d : AX) (r : Reg)
  /-- `exp (rN),sv`, pattern `1001110.01.mmnnn` (R311). -/
  | expIndSv (n : RN) (m : PostMod)
  /-- `exp register,sv`, pattern `1001010.010rrrrr` (R311). -/
  | expRegSv (r : Reg)
  /-- `mov register,register`, pattern `010110RRRRRrrrrr` (R331). -/
  | movRegReg (d : Reg) (r : Reg)
  /-- `mov ab,AB`, pattern `1101ab101AB10...` (R332). -/
  | movAccAcc (src : AB) (d : AB)
  /-- `mov register,bX`, pattern `0101111011Brrrrr` (R336). -/
  | movRegB (b : BX) (r : Reg)
  /-- `mov register,mixp`, pattern `0101111010.rrrrr` (R337). -/
  | movRegMixp (r : Reg)
  /-- `mov register,(rN)`, pattern `000110rrrrrmmnnn` (R333). -/
  | movRegInd (r : Reg) (n : RN) (m : PostMod)
  /-- `mov mixp,register`, pattern `01000111110rrrrr` (R338). -/
  | movMixpReg (r : Reg)
  /-- `mov icr,AB`, pattern `1101010.1AB10.10` (R355). -/
  | movIcrAcc (d : AB)
  /-- `mov x,AB`, pattern `1101010.1AB10.11` (R356). -/
  | movXAcc (d : AB)
  /-- `mov (rN),register`, pattern `000111rrrrrmmnnn` (R334). -/
  | movIndReg (r : Reg) (n : RN) (m : PostMod)
  /-- `mov (rN),bX`, pattern `1001100B11.mmnnn` (R335). -/
  | movIndB (b : BX) (n : RN) (m : PostMod)
  /-- `mov (sp),register`, pattern `01000111111rrrrr` (R339). -/
  | movSpReg (r : Reg)
  /-- `mov rN*,direct`, pattern `0010nnn0dddddddd` (R340). -/
  | movRnDirect (n : RNStar) (a : BitVec 8)
  /-- `mov ABLH,direct`, pattern `0011ABL0dddddddd` (R341). -/
  | movPartDirect (q : AccPart) (a : BitVec 8)
  /-- `mov direct,rN*`, pattern `011nnn00dddddddd` (R342). -/
  | movDirectRn (n : RNStar) (a : BitVec 8)
  /-- `mov direct,AB`, pattern `011AB001dddddddd` (R343). -/
  | movDirectAcc (d : AB) (a : BitVec 8)
  /-- `mov direct,ABLH`, pattern `011ABL10dddddddd` (R344). -/
  | movDirectPart (q : AccPart) (a : BitVec 8)
  /-- `mov direct,aXh,eu`, pattern `011A0101dddddddd` (R345). -/
  | movDirectHighEu (d : AX) (a : BitVec 8)
  /-- `mov direct,sv`, pattern `01101101dddddddd` (R346). -/
  | movDirectSv (a : BitVec 8)
  /-- `mov sv,direct`, pattern `01111101dddddddd` (R347). -/
  | movSvDirect (a : BitVec 8)
  /-- `mov [##direct],aX`, pattern `1101010A101110..` (R348). -/
  | movDirLongA (d : AX) (v : Word)
  /-- `mov aXl,[##direct]`, pattern `1101010A101111..` (R349). -/
  | movLowDirLong (d : AX) (v : Word)
  /-- `mov ##long,register`, pattern `0101111.000rrrrr` (R358). -/
  | movLongReg (r : Reg) (v : Word)
  /-- `mov ##long,bX`, pattern `0101111B001.....` (R359). -/
  | movLongB (b : BX) (v : Word)
  /-- `mov #short,aXl`, pattern `001A0001vvvvvvvv` (R360). -/
  | movShortLow (d : AX) (v : BitVec 8)
  /-- `mov #short,aXh`, pattern `001A0101vvvvvvvv` (R361). -/
  | movShortHigh (d : AX) (v : BitVec 8)
  /-- `mov #short,rN*`, pattern `001nnn11vvvvvvvv` (R362). -/
  | movShortRn (n : RNStar) (v : BitVec 8)
  /-- `mov #short,extX`, pattern `001X1X01vvvvvvvv` (R363). -/
  | movShortExt (e : ExtReg) (v : BitVec 8)
  /-- `mov #short,sv`, pattern `00000101vvvvvvvv` (R364). -/
  | movShortSv (v : BitVec 8)
  /-- `mov register,icr`, pattern `0100111111.rrrrr` (R350). -/
  | movRegIcr (r : Reg)
  /-- `mov #imm5,icr`, pattern `0100111110.vvvvv` (R351). -/
  | movImmIcr (v : BitVec 5)
  /-- `mov (rb+#offset7),aX`, pattern `1101100A1ooooooo` (R365). -/
  | movIdx7A (d : AX) (o : BitVec 7)
  /-- `mov aXl,(rb+#offset7)`, pattern `1101110A1ooooooo` (R366). -/
  | movLowIdx7 (d : AX) (o : BitVec 7)
  /-- `mov (rb+##offset),aX`, pattern `1101010A100110..` (R367). -/
  | movIdx16A (d : AX) (v : Word)
  /-- `mov aXl,(rb+##offset)`, pattern `1101010A100111..` (R368). -/
  | movLowIdx16 (d : AX) (v : Word)
  /-- `movp (aXl),register`, pattern `0000000001Arrrrr` (R370). -/
  | movpLowReg (d : AX) (r : Reg)
  /-- `movp (rN),(rI)`, pattern `0000011iiqqmmnnn` (R371). -/
  | movpIndInd (i : RI) (im : PostMod) (n : RN) (m : PostMod)
  /-- `movs register,AB`, pattern `000000010ABrrrrr` (R378). -/
  | movsReg (d : AB) (r : Reg)
  /-- `movs (rN),AB`, pattern `000000011ABmmnnn` (R379). -/
  | movsInd (d : AB) (n : RN) (m : PostMod)
  /-- `movs direct,AB`, pattern `011AB011dddddddd` (R380). -/
  | movsDirect (d : AB) (a : BitVec 8)
  /-- `movsi rN*,AB`, pattern `0100nnn01ABvvvvv` (R381). -/
  | movsi (n : RNStar) (d : AB) (k : BitVec 5)
  /-- `movr register,aX`, pattern `1001110A110rrrrr` (R374). -/
  | movrReg (d : AX) (r : Reg)
  /-- `movr (rN),aX`, pattern `1001110A111mmnnn` (R375). -/
  | movrInd (d : AX) (n : RN) (m : PostMod)
  /-- `push register`, pattern `01011110010rrrrr` (R385). -/
  | pushReg (r : Reg)
  /-- `push ##long`, pattern `0101111101......` (R386). -/
  | pushLong (v : Word)
  /-- `pop register`, pattern `01011110011rrrrr` (R387). -/
  | popReg (r : Reg)
  /-- `swap`, pattern `0100100110..swap` (R390). -/
  | swap (o : SwapOp)
  /-- `banke`, pattern `010010111...bank` (R392). -/
  | banke (k : BitVec 4)
  /-- `movd (rI),(rJ)`, pattern `010111111jjiiwqq` (R372). -/
  | movd (i : RI) (im : PostMod) (j : RJ) (jm : PostMod)
  /-- `rep register`, pattern `00001101...rrrrr` (R401). -/
  | repReg (r : Reg)
  /-- `rep #short`, pattern `00001100vvvvvvvv` (R400). -/
  | repShort (v : BitVec 8)
  /-- `bkrep #short`, pattern `01011100vvvvvvvv` (R404). -/
  | bkrepShort (v : BitVec 8) (w2 : Word)
  /-- `bkrep register`, pattern `01011101...rrrrr` (R405). -/
  | bkrepReg (r : Reg) (w2 : Word)
  /-- `br`, pattern `0100000110..cccc` (R421). -/
  | br (c : Cond) (v : Word)
  /-- `brr`, pattern `01010ooooooocccc` (R422). -/
  | brr (o : BitVec 7) (c : Cond)
  /-- `call`, pattern `0100000111..cccc` (R423). -/
  | call (c : Cond) (v : Word)
  /-- `callr`, pattern `00010ooooooocccc` (R424). -/
  | callr (o : BitVec 7) (c : Cond)
  /-- `ret`, pattern `0100010110..cccc` (R430). -/
  | ret (c : Cond)
  /-- `reti`, pattern `0100010111.fcccc` (R432). -/
  | reti (ctx : Bool) (c : Cond)
  /-- `rets`, pattern `00001001vvvvvvvv` (R434). -/
  | rets (v : BitVec 8)
  /-- `modr`, pattern `000000001.fmmnnn` (R451). -/
  | modr (dmod : Bool) (n : RN) (m : PostMod)
  /-- `load page`, pattern `00000100vvvvvvvv` (R455). -/
  | loadPage (v : BitVec 8)
  /-- `load modi`, pattern `0000001vvvvvvvvv` (R456). -/
  | loadModi (v : BitVec 9)
  /-- `load modj`, pattern `0000101vvvvvvvvv` (R456). -/
  | loadModj (v : BitVec 9)
  /-- `load stepi`, pattern `110110111vvvvvvv` (R457). -/
  | loadStepi (v : BitVec 7)
  /-- `load stepj`, pattern `110111111vvvvvvv` (R457). -/
  | loadStepj (v : BitVec 7)
  /-- `load ps`, pattern `010011011.....vv` (R458). -/
  | loadPs (v : BitVec 2)
  /-- `lim` with a0, pattern `0100100111XX....` (R249). -/
  | limA0
  /-- `lim` with a0a1, pattern `0100100111XX....` (R249). -/
  | limA0A1
  /-- `lim` with a1a0, pattern `0100100111XX....` (R249). -/
  | limA1A0
  /-- `lim` with a1, pattern `0100100111XX....` (R249). -/
  | limA1
  /-- `exp bX,aX` with a0, b0, pattern `1001000A011....B` (R311). -/
  | expB0A0
  /-- `exp bX,aX` with a0, b1, pattern `1001000A011....B` (R311). -/
  | expB1A0
  /-- `exp bX,aX` with a1, b0, pattern `1001000A011....B` (R311). -/
  | expB0A1
  /-- `exp bX,aX` with a1, b1, pattern `1001000A011....B` (R311). -/
  | expB1A1
  /-- `exp bX,sv` with b0, pattern `1001010.011....B` (R311). -/
  | expB0Sv
  /-- `exp bX,sv` with b1, pattern `1001010.011....B` (R311). -/
  | expB1Sv
  /-- `mov ABl,dvm` with b0, pattern `1101ab1010.11...` (R357). -/
  | movB0lDvm
  /-- `mov ABl,dvm` with b1, pattern `1101ab1010.11...` (R357). -/
  | movB1lDvm
  /-- `mov ABl,dvm` with a0, pattern `1101ab1010.11...` (R357). -/
  | movA0lDvm
  /-- `mov ABl,dvm` with a1, pattern `1101ab1010.11...` (R357). -/
  | movA1lDvm
  /-- `mov ABl,x` with b0, pattern `1101ab1011.11...` (R352). -/
  | movB0lX
  /-- `mov ABl,x` with b1, pattern `1101ab1011.11...` (R352). -/
  | movB1lX
  /-- `mov ABl,x` with a0, pattern `1101ab1011.11...` (R352). -/
  | movA0lX
  /-- `mov ABl,x` with a1, pattern `1101ab1011.11...` (R352). -/
  | movA1lX
  /-- `mov repc,AB` with b0, pattern `1101010.1AB10.00` (R353). -/
  | movRepcB0
  /-- `mov repc,AB` with b1, pattern `1101010.1AB10.00` (R353). -/
  | movRepcB1
  /-- `mov repc,AB` with a0, pattern `1101010.1AB10.00` (R353). -/
  | movRepcA0
  /-- `mov repc,AB` with a1, pattern `1101010.1AB10.00` (R353). -/
  | movRepcA1
  /-- `mov dvm,AB` with b0, pattern `1101010.1AB10.01` (R354). -/
  | movDvmB0
  /-- `mov dvm,AB` with b1, pattern `1101010.1AB10.01` (R354). -/
  | movDvmB1
  /-- `mov dvm,AB` with a0, pattern `1101010.1AB10.01` (R354). -/
  | movDvmA0
  /-- `mov dvm,AB` with a1, pattern `1101010.1AB10.01` (R354). -/
  | movDvmA1
  /-- `break`, pattern `1101001111......` (R408). -/
  | breakLoop
  /-- `calla` with a0, pattern `1101010A1..0....` (R425). -/
  | callaA0
  /-- `calla` with a1, pattern `1101010A1..0....` (R425). -/
  | callaA1
  /-- `retd`, pattern `1101011110......` (R436). -/
  | retd
  /-- `retid`, pattern `1101011111.0....` (R440). -/
  | retid
  /-- `cntx s`, pattern `1101001110.0....` (R460). -/
  | cntxS
  /-- `cntx r`, pattern `1101001110.1....` (R461). -/
  | cntxR
  /-- `nop`, pattern `00000000000.....` (R450). -/
  | nop
  /-- `eint`, pattern `0100001110......` (R452). -/
  | eint
  /-- `dint`, pattern `0100001111......` (R453). -/
  | dint
  /-- `trap`, pattern `00000000001.....` (R454). -/
  | trap
  deriving DecidableEq, Repr

end Sys2Proof
end

