-- ==== Sys2Proof/Machine/State.lean ====
section
/-! DEFINITION. The machine's state as plain data (10_state.md R20), the reasons a step stops, and the state after
reset (R74). Reset values that the spec does not give are the model's: notes/assumptions/1.md, 2.md, 4.md, 5.md. -/

namespace Sys2Proof.Machine

/-- The eight flags, st0 bits 11..4 (R45 to R53). -/
structure Flags where
  z : Bool
  m : Bool
  n : Bool
  v : Bool
  c : Bool
  e : Bool
  l : Bool
  r : Bool
  deriving DecidableEq, Repr

/-- The four 36-bit accumulators (R21, R22). a0[35:32] and a1[35:32] are st0[15:12] and st1[15:12]. -/
structure Accs where
  a0 : Acc
  a1 : Acc
  b0 : Acc
  b1 : Acc
  deriving DecidableEq, Repr

/-- The multiplier: x, y (R23), the product p and its hidden sign bit pu (R24, R65). -/
structure Multiplier where
  x : Word
  y : Word
  p : BitVec 32
  pu : Bool
  deriving DecidableEq, Repr

/-- The data address unit: r0..r5 (R26), cfgi, cfgj (R27), rb (R28), sp (R29), the alternative bank (R32), mixp (R33). -/
structure Pointers where
  r0 : Word
  r1 : Word
  r2 : Word
  r3 : Word
  r4 : Word
  r5 : Word
  cfgi : Word
  cfgj : Word
  rb : Word
  sp : Word
  r0b : Word
  r1b : Word
  r4b : Word
  cfgib : Word
  mixp : Word
  deriving DecidableEq, Repr

/-- The bits of st0, st1, st2 that are neither flags, nor accumulator nibbles, nor pins (R40 to R42, R54 to R61).
Bit k of `modulo` is Mk. -/
structure Status where
  im0 : Bool
  im1 : Bool
  im2 : Bool
  ie : Bool
  sat : Bool
  ps : BitVec 2
  page : BitVec 8
  ou1 : Bool
  ou0 : Bool
  s : Bool
  modulo : BitVec 6
  deriving DecidableEq, Repr

/-- The internal configuration register icr (R43). -/
structure Icr where
  bc : BitVec 3
  lp : Bool
  ic2 : Bool
  ic1 : Bool
  ic0 : Bool
  nmic : Bool
  deriving DecidableEq, Repr

/-- One level of the block-repeat stack: first and last address, saved counter (R66). -/
structure BlockLevel where
  start : Word
  last : Word
  savedLc : Word
  deriving DecidableEq, Repr

/-- The loop units: lc (R36), repc (R37), the block-repeat levels 1..4 (R66), the repeat state (R67). -/
structure Loops where
  lc : Word
  repc : Word
  bk1 : BlockLevel
  bk2 : BlockLevel
  bk3 : BlockLevel
  bk4 : BlockLevel
  repActive : Bool
  repSavedActive : Bool
  repSavedC : Word
  repSavedAddr : Word
  deriving DecidableEq, Repr

/-- The shadow bits (R70) and the alternative page register (R71). -/
structure Shadow where
  flags : Flags
  im0 : Bool
  im1 : Bool
  sat : Bool
  ps : BitVec 2
  s : Bool
  im2 : Bool
  modulo : BitVec 6
  altPage : BitVec 8
  deriving DecidableEq, Repr

/-- A delayed return under way (R72): the popped target, the delay-slot cycles left, and whether the `retid` that
began it ended a TRAP/BI routine (R523). -/
structure DelayedReturn where
  target : Word
  left : Nat
  fromTrap : Bool
  deriving DecidableEq, Repr

/-- The hold counters of the five interrupt sources, in cycles (60_exceptions.md R523). -/
structure Holds where
  int0 : Nat
  int1 : Nat
  int2 : Nat
  nmi : Nat
  bi : Nat
  deriving DecidableEq, Repr

/-- What the instruction just executed did that forbids some instruction right after it (70_reset_and_hazards.md R620). -/
structure Previous where
  wroteRb : Bool
  wroteSp : Bool
  wroteIcr : Bool
  wasMinMax : Bool
  deriving DecidableEq, Repr

/-- The interrupt service state: in_nmi, in_trap (R68), dret (R72), icr_ctx_effective as IC2, IC1, IC0, NMIC (R73),
the hold counters (R523), "an instruction has completed since reset" (R520 b), in_boot (R603), "the instruction at
the vector is still to execute" (R503), "the next instruction is the first after a return from TRAP/BI" (R523). -/
structure Service where
  inNmi : Bool
  inTrap : Bool
  dret : Option DelayedReturn
  icrCtx : BitVec 4
  hold : Holds
  started : Bool
  inBoot : Bool
  atVector : Bool
  afterTrap : Bool
  prev : Previous
  deriving DecidableEq, Repr

/-- The levels of the input pins (R59, R502, D11). The environment sets them between steps; no step changes them. -/
structure Pins where
  reset : Bool
  boot : Bool
  nmi : Bool
  int0 : Bool
  int1 : Bool
  int2 : Bool
  bi : Bool
  iuser0 : Bool
  iuser1 : Bool
  deriving DecidableEq, Repr

/-- Where an access to off-core logic goes: the two spaces (R80), or the buses of the user-defined registers (R112), whose
address is the 2-bit select code. -/
inductive Space where
  | data | program | user
  deriving DecidableEq, Repr

/-- An access to a device that the core presents to the off-core logic (R38, R85): a read, or a write of a word. -/
structure BusAccess where
  space : Space
  address : Word
  write : Option Word
  deriving DecidableEq, Repr

/-- What the last step shows the outside: an entry was made, and it was made by `trap` (R513); the accesses to devices,
oldest first (R38, R85). -/
structure Outputs where
  ack : Bool
  sft : Bool
  bus : List BusAccess
  deriving DecidableEq, Repr

/-- Nothing to show. -/
def Outputs.quiet : Outputs := { ack := false, sft := false, bus := [] }

/-- What stands behind an address (D2). -/
inductive MemKind where
  | ram | rom | device | nothing
  deriving DecidableEq, Repr

/-- A range of addresses, both ends included, and what stands behind it (D2, D43). -/
structure Region where
  first : Word
  last : Word
  kind : MemKind
  deriving DecidableEq, Repr

/-- What a user-defined register is on the chip (00_scope.md R5, D12): not there, a plain 16-bit register, or a device whose
answer the off-core logic drives at each read (R38, U29). -/
inductive ExtKind where
  | absent | plain | device
  deriving DecidableEq, Repr

/-- What the chip fixes (00_scope.md R5): the boundaries of Zspace (R82), what each extX is (D12), what stands behind
the data and program addresses (D2, D43; an address in no region is ram). No step changes it. -/
structure Chip where
  xramconf : BitVec 6
  yramconf : BitVec 6
  ext0Kind : ExtKind
  ext1Kind : ExtKind
  ext2Kind : ExtKind
  ext3Kind : ExtKind
  dataMap : List Region
  progMap : List Region
  deriving DecidableEq, Repr

/-- The words of the user-defined registers ext0..ext3 that are plain registers on the chip (R38, D12); a device keeps none
here. -/
structure ExtRegs where
  ext0 : Word
  ext1 : Word
  ext2 : Word
  ext3 : Word
  deriving DecidableEq, Repr

/-- The whole machine. `dmem` and `pmem` are the data and the program space, as bytes in canonical form: the low
half of the word at address a is the byte 2a, its high half the byte 2a + 1 (log 3). `freeCtr` is the model's own: it
numbers the uses of free values (log 51). -/
structure State where
  pc : Word
  accs : Accs
  mul : Multiplier
  sv : Word
  dau : Pointers
  flags : Flags
  stat : Status
  icr : Icr
  loops : Loops
  shadow : Shadow
  dvm : Word
  ext : ExtRegs
  svc : Service
  dmem : List Host.Cell
  pmem : List Host.Cell
  pins : Pins
  out : Outputs
  chip : Chip
  freeCtr : Nat
  deriving DecidableEq, Repr

/-- Why the machine stops with a fault: never. The core has no fault mechanism, and no address can fault (60_exceptions.md
R530, 93_implementation_defined.md), so there is no constructor. -/
inductive Fault where
  deriving DecidableEq, Repr

/-- Why the model has no step. Every one is safe: the model stops where the source forbids or does not say. -/
inductive Refusal where
  /-- An instruction without a meaning: none is left. -/
  | notModelled (mnemonic : String)
  /-- The word at this address matches no pattern (R158, D1, U2); raised by fetch. -/
  | noPattern (word address : Word)
  /-- The word at this address holds a register or option code that is not defined (R137, R149, R158); raised by fetch. -/
  | reservedField (word address : Word)
  /-- The word at this address names an operand its instruction excludes (R159, U3, U25); raised by fetch, and by `bkrep lc`
  inside a loop (R405). -/
  | excludedOperand (word address : Word)
  /-- A meaning applied to a register its well-formedness excludes: never from a decoded word (R159). -/
  | notSixteenBits
  /-- An access to a data address that the chip says holds nothing (R83, D2, U28); raised by the data reads and writes. -/
  | dataAbsent
  /-- An access to a program address that the chip says holds nothing (D2, U28); raised by fetch, `movp`, `movd`. -/
  | progAbsent
  /-- An instruction fetch from a device address of the program space: the word is the device's (R96, D43; log 61). -/
  | progDevice
  /-- A `movd` to a ROM address (R96, D43, U28). -/
  | progRomWrite
  /-- An access to an extX that the chip does not have (D12, U27). -/
  | extAbsent
  /-- Index addressing right after a write to rb (R621, U21). -/
  | indexAfterRb
  /-- A write to pc whose padding words are not `nop` (R622, U20). -/
  | paddingNotNop
  /-- `retd` or `retid` right after a write to sp (R623, U23). -/
  | delayedReturnAfterSp
  /-- `bkrep` right after a write to icr (R624, U23). -/
  | blockRepeatAfterIcr
  /-- `mov mixp, REG` right after `max`, `maxd` or `min` (R626, U22). -/
  | mixpAfterMinMax
  /-- `rep` before an instruction that cannot be repeated (R402, U16). -/
  | notRepeatable
  /-- An instruction that does not fit the delay slot of `retd` or `retid` (R442, U18). -/
  | notInDelaySlot
  /-- An instruction too close to the last address of a block-repeat loop (R407, U17). -/
  | loopPlacement
  /-- A fifth level of `bkrep` (R410, U17). -/
  | loopTooDeep
  /-- A block-repeat loop of fewer than two words (R404, U17). -/
  | loopTooShort
  /-- A block-repeat loop with the last address of an active level (R407, U17). -/
  | loopSameLast
  /-- `break` outside a block-repeat loop (R410, U17). -/
  | breakOutsideLoop
  /-- `trap` in a TRAP/BI service routine (R454, U19). -/
  | trapInTrap
  /-- `movd` to its own program address or the next (R97, R372, U24). -/
  | movdSelf
  deriving DecidableEq, Repr

/-- A block-repeat level nothing has written (log 1). -/
def BlockLevel.zero : BlockLevel := { start := 0, last := 0, savedLc := 0 }

/-- The flags after reset (R74). -/
def Flags.zero : Flags :=
  { z := false, m := false, n := false, v := false, c := false, e := false, l := false, r := false }

/-- The hold counters after reset (R600). -/
def Holds.zero : Holds := { int0 := 0, int1 := 0, int2 := 0, nmi := 0, bi := 0 }

/-- No hazard is open (R620). -/
def Previous.zero : Previous := { wroteRb := false, wroteSp := false, wroteIcr := false, wasMinMax := false }

/-- The machine right after reset: what R74 and R600 clear is clear, every other register holds the value log 1 names. -/
def State.reset : State :=
  { pc := 0
    accs := { a0 := 0, a1 := 0, b0 := 0, b1 := 0 }
    mul := { x := 0, y := 0, p := 0, pu := false }
    sv := 0
    dau := { r0 := 0, r1 := 0, r2 := 0, r3 := 0, r4 := 0, r5 := 0, cfgi := 0, cfgj := 0, rb := 0, sp := 0,
             r0b := 0, r1b := 0, r4b := 0, cfgib := 0, mixp := 0 }
    flags := Flags.zero
    stat := { im0 := false, im1 := false, im2 := false, ie := false, sat := false, ps := 0, page := 0,
              ou1 := false, ou0 := false, s := false, modulo := 0 }
    icr := { bc := 0, lp := false, ic2 := false, ic1 := false, ic0 := false, nmic := false }
    loops := { lc := 0, repc := 0, bk1 := BlockLevel.zero, bk2 := BlockLevel.zero, bk3 := BlockLevel.zero,
               bk4 := BlockLevel.zero, repActive := false, repSavedActive := false, repSavedC := 0, repSavedAddr := 0 }
    shadow := { flags := Flags.zero, im0 := false, im1 := false, sat := false, ps := 0, s := false, im2 := false,
                modulo := 0, altPage := 0 }
    dvm := 0
    ext := { ext0 := 0, ext1 := 0, ext2 := 0, ext3 := 0 }
    svc := { inNmi := false, inTrap := false, dret := none, icrCtx := 0, hold := Holds.zero, started := false,
             inBoot := false, atVector := false, afterTrap := false, prev := Previous.zero }
    dmem := []
    pmem := []
    pins := { reset := false, boot := false, nmi := false, int0 := false, int1 := false, int2 := false, bi := false,
              iuser0 := false, iuser1 := false }
    out := Outputs.quiet
    chip := { xramconf := Config.xramconf, yramconf := Config.yramconf, ext0Kind := .plain, ext1Kind := .plain,
              ext2Kind := .plain, ext3Kind := .plain, dataMap := [], progMap := [] }
    freeCtr := 0 }

end Sys2Proof.Machine
end

