-- ==== Sys2Proof/Machine/Flags.lean ====
section
/-! DEFINITION. Every flag computation and every 36-bit result the spec gives: the ALU (40_alu.md R200), the barrel
shifter (42_bmu.md R290), the exponent unit (R310), the bit-field unit (R300), the multiplier (41_multiply.md R260). -/

namespace Sys2Proof.Machine

/-- A 36-bit result with its carry and overflow (R200, R290). -/
structure AluOut where
  r : Acc
  c : Bool
  v : Bool
  deriving DecidableEq, Repr

/-- Bits 35..31 are all equal: the value fits 32 bits (R50, R31). -/
def fits32 (x : Acc) : Bool := x.extractLsb' 31 5 == 0 || x.extractLsb' 31 5 == BitVec.allOnes 5

/-- `SetZMNE` (R52): N uses the new Z and E. -/
def Flags.setZMNE (f : Flags) (r : Acc) : Flags :=
  { f with z := r == 0
           m := r.msb
           e := !fits32 r
           n := r == 0 || ((r.getLsbD 31 ^^ r.getLsbD 30) && fits32 r) }

/-- `ArithFlags` (R200): Z M N E from the result, V, C, and L latching V. -/
def Flags.arith (f : Flags) (o : AluOut) : Flags :=
  { f.setZMNE o.r with v := o.v, c := o.c, l := f.l || o.v }

/-- `ShiftFlags` (R290): in logic mode V and L are unchanged. -/
def Flags.shift (f : Flags) (o : AluOut) (logic : Bool) : Flags :=
  if logic then { f.setZMNE o.r with c := o.c } else f.arith o

/-- The flags of a rotation (R223, R224): C is the bit shifted out; V and L are unchanged. -/
def Flags.rotate (f : Flags) (r : Acc) (c : Bool) : Flags := { f.setZMNE r with c := c }

/-- The flags of `and` (R207): Z, M, E of the ALU output; N is unchanged. -/
def Flags.andOutput (f : Flags) (r : Acc) : Flags := { f with z := r == 0, m := r.msb, e := !fits32 r }

/-- `BfoFlags` (R300): Z and M of the 16-bit result. -/
def Flags.bitField (f : Flags) (r : Word) : Flags := { f with z := r == 0, m := r.msb }

/-- The flags a shift by sv outside -36..36 leaves: Z, M, N, V, C, E, L free, R unchanged (R291). -/
def Flags.freeShift (f : Flags) (b : BitVec 7) : Flags :=
  { z := b.getLsbD 6, m := b.getLsbD 5, n := b.getLsbD 4, v := b.getLsbD 3, c := b.getLsbD 2, e := b.getLsbD 1,
    l := b.getLsbD 0, r := f.r }

/-- `Add36` (R200): carry out of bit 35, two's complement overflow. -/
def add36 (a b : Acc) : AluOut :=
  let r := a + b
  { r := r, c := decide (2 ^ 36 ≤ a.toNat + b.toNat), v := a.msb == b.msb && r.msb != a.msb }

/-- `Sub36` (R200): C is the borrow. -/
def sub36 (a b : Acc) : AluOut :=
  let r := a - b
  { r := r, c := decide (a.toNat < b.toNat), v := a.msb != b.msb && r.msb != a.msb }

/-- `Shift36` (R290) of x by n, left when positive; `logic` is the S bit. -/
def shift36 (x : Acc) (n : Int) (logic : Bool) : AluOut :=
  match n with
  | .ofNat 0 => { r := x, c := false, v := false }
  | .ofNat (k + 1) =>
    { r := x <<< (k + 1)
      c := x.getLsbD (36 - (k + 1))
      v := if 36 ≤ k + 1 then x != 0
           else x.sshiftRight (35 - (k + 1)) != 0 && x.sshiftRight (35 - (k + 1)) != BitVec.allOnes 36 }
  | .negSucc k =>
    { r := if logic then x >>> (k + 1) else x.sshiftRight (k + 1), c := x.getLsbD k, v := false }

/-- The number of bits below bit `k` of x, counted downward, that equal bit 35 (R310). -/
def signRun (x : Acc) : Nat → Nat
  | 0 => 0
  | k + 1 => if x.getLsbD k == x.msb then signRun x k + 1 else 0

/-- `Exp36` (R310): the number of sign bits less five. -/
def exp36 (x : Acc) : Int := (signRun x 36 : Int) - 5

/-- A 16-bit value in bits 31..16, its sign in bits 35..32, zeros below (R30, R310). -/
def highAcc (v : Word) : Acc := (v.signExtend 20) ++ (0 : BitVec 16)

/-- Whether a factor is read as signed or unsigned (R260). -/
inductive Sign where
  | signed | unsigned
  deriving DecidableEq, Repr

/-- A factor as an integer (R260). -/
def Sign.value (k : Sign) (v : Word) : Int :=
  match k with
  | .signed => v.toInt
  | .unsigned => (v.toNat : Int)

/-- `Multiply` (R260): the new multiplier registers from the loaded y and x. -/
def multiply (ym xm : Sign) (y x : Word) : Multiplier :=
  { x := x, y := y, p := BitVec.ofInt 32 (ym.value y * xm.value x), pu := ym == .unsigned && xm == .unsigned }

/-- `ShiftedP` (R34). -/
def shiftedP (m : Multiplier) (ps : BitVec 2) : Acc :=
  let base : Acc := if m.pu then m.p.setWidth 36 else m.p.signExtend 36
  match ps.toNat with
  | 0 => base
  | 1 => base.sshiftRight 1
  | 2 => base <<< 1
  | _ => base <<< 2

/-- The saturated read of an accumulator part (R31), and whether the value was limited. -/
def satRead (sat high : Bool) (x : Acc) : Word × Bool :=
  if !sat && !fits32 x then
    (if x.msb then (if high then 0x8000 else 0x0000) else (if high then 0x7FFF else 0xFFFF), true)
  else (if high then x.extractLsb' 16 16 else x.extractLsb' 0 16, false)

/-- `lim` (R249): the limited value, and whether limitation occurred. -/
def limited (x : Acc) : Acc × Bool :=
  if 0x07FFFFFFF < x.toInt then (0x07FFFFFFF, true)
  else if x.toInt < -0x080000000 then (0xF80000000, true)
  else (x, false)

/-- The condition of a conditional instruction on the flags before it and the user input pins (R58). -/
def condHolds (c : Cond) (f : Flags) (p : Pins) : Bool :=
  match c with
  | .always => true
  | .eq => f.z
  | .neq => !f.z
  | .gt => !f.m && !f.z
  | .ge => !f.m
  | .lt => f.m
  | .le => f.m || f.z
  | .nn => !f.n
  | .vSet => f.v
  | .cSet => f.c
  | .eSet => f.e
  | .lSet => f.l
  | .nr => !f.r
  | .niu0 => !p.iuser0
  | .iu0 => p.iuser0
  | .iu1 => p.iuser1

end Sys2Proof.Machine
end

