-- ==== Sys2Proof/Machine/Ops.lean ====
section
/-! DEFINITION. The named operations over memory and registers: bytes and words, the data and program spaces, registers
by code, addresses and post-modification, the stack, the context switch, taking an interrupt or a trap and returning. -/

namespace Sys2Proof.Machine

/-- What an operation answers: a next state, a fault or a refusal. -/
abbrev Out := Host.Outcome State Fault Refusal

/-! ### Memory as bytes and words -/

/-- The byte at an address: the listed one, or what an unlisted address reads as (log 2). -/
def Memory.get : List Host.Cell → Nat → BitVec 8
  | [], _ => Config.unlistedByte
  | (k, x) :: m, a => if k = a then x else Memory.get m a

/-- The memory with byte v at address a, in canonical form if m is. -/
def Memory.put : List Host.Cell → Nat → BitVec 8 → List Host.Cell
  | [], a, v => if v = Config.unlistedByte then [] else [(a, v)]
  | (k, x) :: m, a, v =>
    if a < k then (if v = Config.unlistedByte then (k, x) :: m else (a, v) :: (k, x) :: m)
    else if a = k then (if v = Config.unlistedByte then m else (a, v) :: m)
    else (k, x) :: Memory.put m a v

/-- The canonical form: addresses strictly rising, no entry equal to what an unlisted address reads as. -/
def Memory.wf : List Host.Cell → Bool
  | [] => true
  | (k, x) :: m =>
    x != Config.unlistedByte && (match m with | [] => true | (k', _) :: _ => decide (k < k')) && Memory.wf m

/-- The word at a word address (R84): its low byte at 2a, its high byte at 2a + 1 (log 3). -/
def Memory.word (m : List Host.Cell) (a : Word) : Word :=
  Memory.get m (2 * a.toNat + 1) ++ Memory.get m (2 * a.toNat)

/-- The memory with word v at word address a. -/
def Memory.setWord (m : List Host.Cell) (a v : Word) : List Host.Cell :=
  Memory.put (Memory.put m (2 * a.toNat) (v.extractLsb' 0 8)) (2 * a.toNat + 1) (v.extractLsb' 8 8)

/-! ### The two spaces -/

/-- What a map says stands behind an address; ram where no region covers it (D2). -/
def regionKind : List Region → Word → MemKind
  | [], _ => .ram
  | r :: rest, a => if r.first ≤ a ∧ a ≤ r.last then r.kind else regionKind rest a

/-- A read of a device is presented to the off-core logic, in program order (R38, R85); its answer uses a free value. -/
def State.presentRead (s : State) (p : Space) (a : Word) : State :=
  { s with
    out := { s.out with bus := s.out.bus ++ [{ space := p, address := a, write := none }] }
    freeCtr := s.freeCtr + 1 }

/-- A write to a device is presented to the off-core logic, in program order (R38, R85). -/
def State.presentWrite (s : State) (p : Space) (a v : Word) : State :=
  { s with out := { s.out with bus := s.out.bus ++ [{ space := p, address := a, write := some v }] } }

/-- `MemRead(a, 16)` (R84) and the state after it; what stands behind a decides (R83, D2): a device answers a free value
(R85, U29, log 61). -/
def readData (s : State) (a : Word) (k : Word → State → Out) : Out :=
  match regionKind s.chip.dataMap a with
  | .ram | .rom => k (Memory.word s.dmem a) s
  | .device => k (Config.freeDevice s.freeCtr) (s.presentRead .data a)
  | .nothing => .refused .dataAbsent

/-- `MemWrite(a, 16, v)` (R84); what stands behind a decides (R83, D2): the core goes on wherever something stands (R99), a
device takes the word, and a rom keeps its own (DESIGN CHOICE, log 63). -/
def writeData (s : State) (a v : Word) (k : State → Out) : Out :=
  match regionKind s.chip.dataMap a with
  | .ram => k { s with dmem := Memory.setWord s.dmem a v }
  | .rom => k s
  | .device => k (s.presentWrite .data a v)
  | .nothing => .refused .dataAbsent

/-- `ProgRead(a)` (R96) as `movp` makes it, and the state after it. -/
def readProg (s : State) (a : Word) (k : Word → State → Out) : Out :=
  match regionKind s.chip.progMap a with
  | .ram | .rom => k (Memory.word s.pmem a) s
  | .device => k (Config.freeDevice s.freeCtr) (s.presentRead .program a)
  | .nothing => .refused .progAbsent

/-- `ProgWrite(a, v)` (R96); a `movd` to a rom is platform-defined (R96, log 13). -/
def writeProg (s : State) (a v : Word) (k : State → Out) : Out :=
  match regionKind s.chip.progMap a with
  | .ram => k { s with pmem := Memory.setWord s.pmem a v }
  | .rom => .refused .progRomWrite
  | .device => k (s.presentWrite .program a v)
  | .nothing => .refused .progAbsent

/-- `lower`, the first address of Zspace (R82). -/
def Chip.lower (c : Chip) : Nat := c.xramconf.toNat * 1024

/-- `upper`, the first address of Yspace (R82). -/
def Chip.upper (c : Chip) : Nat := c.yramconf.toNat * 1024

/-- The address is in Zspace (R81). -/
def Chip.inZspace (c : Chip) (a : Word) : Bool := decide (c.lower ≤ a.toNat) && decide (a.toNat < c.upper)

/-- The address is in Yspace (R81). -/
def Chip.inYspace (c : Chip) (a : Word) : Bool := decide (c.upper ≤ a.toNat)

/-! ### Accumulators -/

/-- The value of an accumulator. -/
def Accs.get (a : Accs) (i : AB) : Acc :=
  match i with
  | .a0 => a.a0 | .a1 => a.a1 | .b0 => a.b0 | .b1 => a.b1

/-- The accumulators with one replaced. -/
def Accs.set (a : Accs) (i : AB) (v : Acc) : Accs :=
  match i with
  | .a0 => { a with a0 := v } | .a1 => { a with a1 := v } | .b0 => { a with b0 := v } | .b1 => { a with b1 := v }

/-- Bits 15..0 of an accumulator. -/
def low16 (x : Acc) : Word := x.extractLsb' 0 16

/-- Bits 31..16 of an accumulator. -/
def high16 (x : Acc) : Word := x.extractLsb' 16 16

/-- `AccWriteFull` (R30). -/
def accFull (d : Word) : Acc := d.signExtend 36

/-- `AccWriteLow` (R30). -/
def accLow (d : Word) : Acc := d.setWidth 36

/-- `AccWriteHigh` (R30). -/
def accHigh (d : Word) : Acc := highAcc d

/-- The accumulator with its low part replaced and nothing else (R217, `AlbWrite`). -/
def replaceLow (x : Acc) (d : Word) : Acc := x.extractLsb' 16 20 ++ d

/-- The accumulator with its high part replaced and nothing else (R217, `AlbWrite`). -/
def replaceHigh (x : Acc) (d : Word) : Acc := x.extractLsb' 32 4 ++ (d ++ x.extractLsb' 0 16)

/-- The accumulator with its extension nibble replaced (R21, R63). -/
def replaceExt (x : Acc) (e : BitVec 4) : Acc := e ++ x.extractLsb' 0 32

/-- The accumulator and the half that a register code names, if it names a part (R139); true is the high part. -/
def Reg.part (r : Reg) : Option (AB × Bool) :=
  match r with
  | .a0l => some (.a0, false) | .a0h => some (.a0, true) | .a1l => some (.a1, false) | .a1h => some (.a1, true)
  | .b0l => some (.b0, false) | .b0h => some (.b0, true) | .b1l => some (.b1, false) | .b1h => some (.b1, true)
  | .r0 | .r1 | .r2 | .r3 | .r4 | .r5 | .rb | .y | .st0 | .st1 | .st2 | .p | .pc | .sp | .cfgi | .cfgj
  | .ext0 | .ext1 | .ext2 | .ext3 | .a0 | .a1 | .lc | .sv => none

/-- The accumulator and the half of an `ABLH` selector (R135). -/
def AccPart.part (q : AccPart) : AB × Bool :=
  match q with
  | .b0l => (.b0, false) | .b0h => (.b0, true) | .b1l => (.b1, false) | .b1h => (.b1, true)
  | .a0l => (.a0, false) | .a0h => (.a0, true) | .a1l => (.a1, false) | .a1h => (.a1, true)

/-! ### Status registers -/

/-- st0[11:0] (R40): the flags, IM1, IM0, IE, SAT. -/
def State.st0Low (s : State) : BitVec 12 :=
  BitVec.ofBool s.flags.z ++ BitVec.ofBool s.flags.m ++ BitVec.ofBool s.flags.n ++ BitVec.ofBool s.flags.v ++
  BitVec.ofBool s.flags.c ++ BitVec.ofBool s.flags.e ++ BitVec.ofBool s.flags.l ++ BitVec.ofBool s.flags.r ++
  BitVec.ofBool s.stat.im1 ++ BitVec.ofBool s.stat.im0 ++ BitVec.ofBool s.stat.ie ++ BitVec.ofBool s.stat.sat

/-- st0 as a word (R40): the extension nibble of a0 above st0[11:0]. -/
def State.st0 (s : State) : Word := s.accs.a0.extractLsb' 32 4 ++ s.st0Low

/-- st1 as a word (R41), bits 9..8 as given. -/
def State.st1 (s : State) (reserved : BitVec 2) : Word :=
  s.accs.a1.extractLsb' 32 4 ++ s.stat.ps ++ reserved ++ s.stat.page

/-- st2 as a word (R42), bit 12 as given; the IP and IU bits are the pins (R59). -/
def State.st2 (s : State) (reserved : BitVec 1) : Word :=
  BitVec.ofBool s.pins.int1 ++ BitVec.ofBool s.pins.int0 ++ BitVec.ofBool s.pins.int2 ++ reserved ++
  BitVec.ofBool s.pins.iuser1 ++ BitVec.ofBool s.pins.iuser0 ++ BitVec.ofBool s.stat.ou1 ++
  BitVec.ofBool s.stat.ou0 ++ BitVec.ofBool s.stat.s ++ BitVec.ofBool s.stat.im2 ++ s.stat.modulo

/-- A write of v to st0 (R63): a0e, the flags, IM1, IM0, IE, SAT. -/
def State.setSt0 (s : State) (v : Word) : State :=
  { s with
    accs := { s.accs with a0 := replaceExt s.accs.a0 (v.extractLsb' 12 4) }
    flags := { z := v.getLsbD 11, m := v.getLsbD 10, n := v.getLsbD 9, v := v.getLsbD 8, c := v.getLsbD 7,
               e := v.getLsbD 6, l := v.getLsbD 5, r := v.getLsbD 4 }
    stat := { s.stat with im1 := v.getLsbD 3, im0 := v.getLsbD 2, ie := v.getLsbD 1, sat := v.getLsbD 0 } }

/-- A write of v to st1 (R63): a1e, PS, PAGE; bits 9..8 are dropped. -/
def State.setSt1 (s : State) (v : Word) : State :=
  { s with
    accs := { s.accs with a1 := replaceExt s.accs.a1 (v.extractLsb' 12 4) }
    stat := { s.stat with ps := v.extractLsb' 10 2, page := v.extractLsb' 0 8 } }

/-- A write of v to st2 (R63): OU1, OU0, S, IM2, M5..M0; bits 15..10 are dropped. -/
def State.setSt2 (s : State) (v : Word) : State :=
  { s with
    stat := { s.stat with ou1 := v.getLsbD 9, ou0 := v.getLsbD 8, s := v.getLsbD 7, im2 := v.getLsbD 6,
                          modulo := v.extractLsb' 0 6 } }

/-- icr[7:0] (R43). -/
def Icr.low (i : Icr) : BitVec 8 :=
  i.bc ++ BitVec.ofBool i.lp ++ BitVec.ofBool i.ic2 ++ BitVec.ofBool i.ic1 ++ BitVec.ofBool i.ic0 ++
  BitVec.ofBool i.nmic

/-- A write of v to icr (R44): bit 4 set clears LP and BC; LP cannot be set. -/
def Icr.write (i : Icr) (v : Word) : Icr :=
  { bc := if v.getLsbD 4 then 0 else i.bc
    lp := if v.getLsbD 4 then false else i.lp
    ic2 := v.getLsbD 3, ic1 := v.getLsbD 2, ic0 := v.getLsbD 1, nmic := v.getLsbD 0 }

/-- IC2, IC1, IC0, NMIC as icr_ctx_effective holds them (R73). -/
def Icr.ctx (i : Icr) : BitVec 4 :=
  BitVec.ofBool i.ic2 ++ BitVec.ofBool i.ic1 ++ BitVec.ofBool i.ic0 ++ BitVec.ofBool i.nmic

/-! ### Registers by code -/

/-- What a register is on the chip: an extX is what the chip makes of it (R38, D12), every other register is the core's. -/
def State.extKind (s : State) (r : Reg) : ExtKind :=
  match r with
  | .ext0 => s.chip.ext0Kind | .ext1 => s.chip.ext1Kind | .ext2 => s.chip.ext2Kind | .ext3 => s.chip.ext3Kind
  | .r0 | .r1 | .r2 | .r3 | .r4 | .r5 | .rb | .y | .st0 | .st1 | .st2 | .p | .pc | .sp | .cfgi | .cfgj
  | .b0h | .b1h | .b0l | .b1l | .a0 | .a1 | .a0l | .a1l | .a0h | .a1h | .lc | .sv => .plain

/-- The select code of an extX on its buses (R112); 0 for the other registers, which have none. -/
def Reg.extCode (r : Reg) : Word :=
  match r with
  | .ext1 => 1
  | .ext2 => 2
  | .ext3 => 3
  | .ext0 | .r0 | .r1 | .r2 | .r3 | .r4 | .r5 | .rb | .y | .st0 | .st1 | .st2 | .p | .pc | .sp | .cfgi | .cfgj
  | .b0h | .b1h | .b0l | .b1l | .a0 | .a1 | .a0l | .a1l | .a0h | .a1h | .lc | .sv => 0

/-- What a read of an extX answers: the word v of a plain register, a free value of a device (R38, U29, log 22). -/
def ExtKind.answer (k : ExtKind) (n : Nat) (v : Word) : Word :=
  match k with
  | .device => Config.freeDevice n
  | .plain | .absent => v

/-- A write of v to the extX with select code c (R38, R112): a device takes the word, a plain register keeps it, `e` being
the registers after the write. -/
def State.writeExt (s : State) (k : ExtKind) (c v : Word) (e : ExtRegs) : State :=
  match k with
  | .device => s.presentWrite .user c v
  | .plain | .absent => { s with ext := e }

/-- The 16-bit operand that a register code supplies (R62), free bits of st1 and st2 and the answer of a device as
numbered; 0 for the codes that supply none (a0, a1, p), which no operation reads this way. -/
def State.regValue (s : State) (r : Reg) : Word :=
  match r with
  | .r0 => s.dau.r0 | .r1 => s.dau.r1 | .r2 => s.dau.r2 | .r3 => s.dau.r3 | .r4 => s.dau.r4 | .r5 => s.dau.r5
  | .rb => s.dau.rb | .y => s.mul.y | .st0 => s.st0 | .st1 => s.st1 (Config.freeSt1 s.freeCtr)
  | .st2 => s.st2 (Config.freeSt2 s.freeCtr) | .p => 0 | .pc => s.pc | .sp => s.dau.sp
  | .cfgi => s.dau.cfgi | .cfgj => s.dau.cfgj
  | .b0h => high16 s.accs.b0 | .b1h => high16 s.accs.b1 | .b0l => low16 s.accs.b0 | .b1l => low16 s.accs.b1
  | .ext0 => s.chip.ext0Kind.answer s.freeCtr s.ext.ext0 | .ext1 => s.chip.ext1Kind.answer s.freeCtr s.ext.ext1
  | .ext2 => s.chip.ext2Kind.answer s.freeCtr s.ext.ext2 | .ext3 => s.chip.ext3Kind.answer s.freeCtr s.ext.ext3
  | .a0 => 0 | .a1 => 0
  | .a0l => low16 s.accs.a0 | .a1l => low16 s.accs.a1 | .a0h => high16 s.accs.a0 | .a1h => high16 s.accs.a1
  | .lc => s.loops.lc | .sv => s.sv

/-- The chip has the register: every one but an absent extX (R38, D12). -/
def State.hasReg (s : State) (r : Reg) : Bool := s.extKind r != .absent

/-- The state after a register is read: the reads of st1 and st2 use a free value (R41, R42, log 6), the read of an extX that
is a device is presented and uses one (R38, log 22). -/
def State.afterRead (s : State) (r : Reg) : State :=
  if r = .st1 ∨ r = .st2 then { s with freeCtr := s.freeCtr + 1 }
  else if s.extKind r = .device then s.presentRead .user (Reg.extCode r)
  else s

/-- `RegRead16` (R62). -/
def readReg (s : State) (r : Reg) (k : Word → State → Out) : Out :=
  if !r.is16 then .refused .notSixteenBits
  else if !s.hasReg r then .refused .extAbsent
  else k (s.regValue r) (s.afterRead r)

/-- `SatRead` (R31) of the high or low part of accumulator i: the value, and the state with L latched. -/
def readPart (s : State) (i : AB) (high : Bool) (k : Word → State → Out) : Out :=
  let v := satRead s.stat.sat high (s.accs.get i)
  k v.1 { s with flags := { s.flags with l := s.flags.l || v.2 } }

/-- `MovSrc16` (R330): a register as the source of `mov` or `push`; a part is read with saturation, which may set L. -/
def readMovSource (s : State) (r : Reg) (k : Word → State → Out) : Out :=
  match Reg.part r with
  | some (i, high) => readPart s i high k
  | none => readReg s r k

/-- `RegWrite16` (R63), for a register the chip has: p is ph; a part takes R30's write. -/
def State.setReg (s : State) (r : Reg) (v : Word) : State :=
  match r with
  | .r0 => { s with dau := { s.dau with r0 := v } } | .r1 => { s with dau := { s.dau with r1 := v } }
  | .r2 => { s with dau := { s.dau with r2 := v } } | .r3 => { s with dau := { s.dau with r3 := v } }
  | .r4 => { s with dau := { s.dau with r4 := v } } | .r5 => { s with dau := { s.dau with r5 := v } }
  | .rb => { s with dau := { s.dau with rb := v } } | .y => { s with mul := { s.mul with y := v } }
  | .st0 => s.setSt0 v | .st1 => s.setSt1 v | .st2 => s.setSt2 v
  | .p => { s with mul := { s.mul with p := v ++ s.mul.p.extractLsb' 0 16, pu := false } }
  | .pc => { s with pc := v } | .sp => { s with dau := { s.dau with sp := v } }
  | .cfgi => { s with dau := { s.dau with cfgi := v } } | .cfgj => { s with dau := { s.dau with cfgj := v } }
  | .b0h => { s with accs := { s.accs with b0 := accHigh v } } | .b1h => { s with accs := { s.accs with b1 := accHigh v } }
  | .b0l => { s with accs := { s.accs with b0 := accLow v } } | .b1l => { s with accs := { s.accs with b1 := accLow v } }
  | .ext0 => s.writeExt s.chip.ext0Kind 0 v { s.ext with ext0 := v }
  | .ext1 => s.writeExt s.chip.ext1Kind 1 v { s.ext with ext1 := v }
  | .ext2 => s.writeExt s.chip.ext2Kind 2 v { s.ext with ext2 := v }
  | .ext3 => s.writeExt s.chip.ext3Kind 3 v { s.ext with ext3 := v }
  | .a0 => { s with accs := { s.accs with a0 := accFull v } } | .a1 => { s with accs := { s.accs with a1 := accFull v } }
  | .a0l => { s with accs := { s.accs with a0 := accLow v } } | .a1l => { s with accs := { s.accs with a1 := accLow v } }
  | .a0h => { s with accs := { s.accs with a0 := accHigh v } } | .a1h => { s with accs := { s.accs with a1 := accHigh v } }
  | .lc => { s with loops := { s.loops with lc := v } } | .sv => { s with sv := v }

/-- The accumulator that a register code names, whole or in part (R139). -/
def Reg.acc (r : Reg) : Option AB :=
  match r with
  | .a0 => some .a0
  | .a1 => some .a1
  | .a0l | .a0h | .a1l | .a1h | .b0l | .b0h | .b1l | .b1h => (Reg.part r).map Prod.fst
  | .r0 | .r1 | .r2 | .r3 | .r4 | .r5 | .rb | .y | .st0 | .st1 | .st2 | .p | .pc | .sp | .cfgi | .cfgj
  | .ext0 | .ext1 | .ext2 | .ext3 | .lc | .sv => none

/-- `MovDst16` on a register the chip has (R330): the write, then Z M N E when the destination is an accumulator. -/
def State.movReg (s : State) (r : Reg) (v : Word) : State :=
  let t := s.setReg r v
  match Reg.acc r with
  | some i => { t with flags := t.flags.setZMNE (t.accs.get i) }
  | none => t

/-- `MovDst16` (R330): a register as the destination of `mov`, `pop`, `movp`. -/
def writeMovDest (s : State) (r : Reg) (v : Word) : Out :=
  if s.hasReg r then .next (s.movReg r v) else .refused .extAbsent

/-- Accumulator i takes the 36-bit value x, and Z M N E describe it (R330, R332). -/
def State.setAccFlags (s : State) (i : AB) (x : Acc) : State :=
  { s with accs := s.accs.set i x, flags := s.flags.setZMNE x }

/-! ### Addresses and post-modification -/

/-- `EA_direct` (R100). -/
def State.addrDirect (s : State) (d : BitVec 8) : Word := s.stat.page ++ d

/-- `EA_idx7` (R103). -/
def State.addrIdx7 (s : State) (o : BitVec 7) : Word := s.dau.rb + o.signExtend 16

/-- `EA_idx16` (R104). -/
def State.addrIdx16 (s : State) (o : Word) : Word := s.dau.rb + o

/-- The value of an address register (R26, R102). -/
def State.ptr (s : State) (n : RN) : Word :=
  match n with
  | .r0 => s.dau.r0 | .r1 => s.dau.r1 | .r2 => s.dau.r2 | .r3 => s.dau.r3 | .r4 => s.dau.r4 | .r5 => s.dau.r5

/-- The address register with a new value. -/
def State.setPtr (s : State) (n : RN) (v : Word) : State := s.setReg n.reg v

/-- Mn, the modulo enable of rN (R61). -/
def State.moduloOn (s : State) (n : RN) : Bool :=
  match n with
  | .r0 => s.stat.modulo.getLsbD 0 | .r1 => s.stat.modulo.getLsbD 1 | .r2 => s.stat.modulo.getLsbD 2
  | .r3 => s.stat.modulo.getLsbD 3 | .r4 => s.stat.modulo.getLsbD 4 | .r5 => s.stat.modulo.getLsbD 5

/-- The configuration register of rN: cfgi for r0..r3, cfgj for r4, r5 (R105). -/
def State.cfg (s : State) (n : RN) : Word :=
  match n with
  | .r0 | .r1 | .r2 | .r3 => s.dau.cfgi
  | .r4 | .r5 => s.dau.cfgj

/-- STEPx, cfgx[6:0] as a two's complement number (R27). -/
def stepOf (cfg : Word) : Int := (cfg.extractLsb' 0 7).toInt

/-- MODx, cfgx[15:7] (R27). -/
def modOf (cfg : Word) : Nat := (cfg.extractLsb' 7 9).toNat

/-- The number of low bits the modulo unit works on (R106, D8). -/
def moduloBits (modx : Nat) (q : Int) : Nat :=
  let m := modx + q.natAbs
  if 2 ^ Nat.log2 m = m then Nat.log2 m else Nat.log2 modx + 1

/-- `ModuloStep` (R106). -/
def moduloStep (r : Word) (q : Int) (modx : Nat) : Word :=
  if modx = 0 then r
  else
    let b := 2 ^ moduloBits modx q
    let low := r.toNat % b
    let newLow : Nat :=
      if low = modx % b ∧ 0 ≤ q then 0
      else if low = 0 ∧ q < 0 then modx % b
      else (((low : Int) + q) % (b : Int)).toNat
    BitVec.ofNat 16 (r.toNat / b * b + newLow)

/-- The signed amount of a post-modification, none where the register is left alone (R105). -/
def PostMod.amount (m : PostMod) (cfg : Word) : Option Int :=
  match m with
  | .none => Option.none
  | .inc => some 1
  | .dec => some (-1)
  | .step => some (stepOf cfg)

/-- `PostMod(n, mm)` (R105): the new value of rN; linear where the modulo option is off. -/
def State.postMod (s : State) (n : RN) (m : PostMod) (modulo : Bool) : Word :=
  match PostMod.amount m (s.cfg n) with
  | none => s.ptr n
  | some q => if modulo then moduloStep (s.ptr n) q (modOf (s.cfg n)) else s.ptr n + BitVec.ofInt 16 q

/-- rN <- PostMod(n, mm), subject to Mn (R102, R105). -/
def State.bump (s : State) (n : RN) (m : PostMod) : State := s.setPtr n (s.postMod n m (s.moduloOn n))

/-- The target of a relative branch or call (R422): pc is the address after the one-word instruction. -/
def State.relative (s : State) (o : BitVec 7) : Word := s.pc + o.signExtend 16

/-! ### The stack -/

/-- `Push(v)` (R110). -/
def push (s : State) (v : Word) (k : State → Out) : Out :=
  writeData s (s.dau.sp - 1) v fun t => k { t with dau := { t.dau with sp := s.dau.sp - 1 } }

/-- `Pop()` (R110). -/
def pop (s : State) (k : Word → State → Out) : Out :=
  readData s s.dau.sp fun v t => k v { t with dau := { t.dau with sp := s.dau.sp + 1 } }

/-! ### Block-repeat levels -/

/-- Level k of the block-repeat stack, 1 the outermost (R66). -/
def Loops.level (l : Loops) (k : Nat) : BlockLevel :=
  match k with
  | 0 | 1 => l.bk1
  | 2 => l.bk2
  | 3 => l.bk3
  | _ => l.bk4

/-- The block-repeat stack with level k replaced. -/
def Loops.setLevel (l : Loops) (k : Nat) (b : BlockLevel) : Loops :=
  match k with
  | 0 | 1 => { l with bk1 := b }
  | 2 => { l with bk2 := b }
  | 3 => { l with bk3 := b }
  | _ => { l with bk4 := b }

/-- The last address of the innermost active level (R406). -/
def State.loopLast (s : State) : Word := (s.loops.level s.icr.bc.toNat).last

/-- The innermost level is popped (R406, R408): lc takes the enclosing level's counter, BC goes down, LP goes with
the last level. -/
def State.popLevel (s : State) : State :=
  { s with
    loops := { s.loops with
      lc := if 2 ≤ s.icr.bc.toNat then (s.loops.level s.icr.bc.toNat).savedLc else s.loops.lc }
    icr := { s.icr with bc := s.icr.bc - 1, lp := if s.icr.bc - 1 = 0 then false else s.icr.lp } }

/-! ### Context switch -/

/-- Context store (R462). -/
def State.contextStore (s : State) : State :=
  { s with
    shadow := { flags := s.flags, im0 := s.stat.im0, im1 := s.stat.im1, sat := s.stat.sat, ps := s.stat.ps,
                s := s.stat.s, im2 := s.stat.im2, modulo := s.stat.modulo, altPage := s.stat.page }
    stat := { s.stat with page := s.shadow.altPage }
    accs := { s.accs with a1 := s.accs.b1, b1 := s.accs.a1 }
    flags := s.flags.setZMNE s.accs.b1 }

/-- Context restore (R463). -/
def State.contextRestore (s : State) : State :=
  { s with
    flags := s.shadow.flags
    stat := { s.stat with im0 := s.shadow.im0, im1 := s.shadow.im1, sat := s.shadow.sat, ps := s.shadow.ps,
                          s := s.shadow.s, im2 := s.shadow.im2, modulo := s.shadow.modulo, page := s.shadow.altPage }
    shadow := { s.shadow with altPage := s.stat.page }
    accs := { s.accs with a1 := s.accs.b1, b1 := s.accs.a1 } }

/-! ### Taking an interrupt or a trap, and returning -/

/-- The sources that enter a service routine (R501). -/
inductive Source where
  | trap | bi | nmi | int0 | int1 | int2
  deriving DecidableEq, Repr

/-- The address of a source's vector (R98, R501). -/
def Source.vector (k : Source) : Word :=
  match k with
  | .trap | .bi => 0x0002
  | .nmi => 0x0004
  | .int0 => 0x0006
  | .int1 => 0x000E
  | .int2 => 0x0016

/-- The source's context-switch enable is in effect (R73, R507); TRAP and BI have none. -/
def Source.switches (k : Source) (ctx : BitVec 4) : Bool :=
  match k with
  | .trap | .bi => false
  | .nmi => ctx.getLsbD 0
  | .int0 => ctx.getLsbD 1
  | .int1 => ctx.getLsbD 2
  | .int2 => ctx.getLsbD 3

/-- What entry saves of an interrupted repeat (R403): pc is the address of the repeated instruction. -/
def Loops.saveRepeat (l : Loops) (pc : Word) : Loops :=
  if l.repActive then { l with repActive := false, repSavedActive := true, repSavedC := l.repc, repSavedAddr := pc }
  else l

/-- Entering a service routine (R454, R505, R506, R509): the return address is pushed, dvm is loaded for TRAP and BI,
IE is cleared for a maskable interrupt, the context is stored where that is enabled, the service state is set, pc goes
to the vector, the acknowledge is given. `trap` is an instruction: no repeat is saved, pc is the address after it. -/
def enter (src : Source) (s : State) : Out :=
  push s s.pc fun t =>
    let t := if src.switches s.svc.icrCtx then t.contextStore else t
    .next
      { t with
        loops := if src = .trap then t.loops else t.loops.saveRepeat s.pc
        stat := { t.stat with ie := if src = .int0 ∨ src = .int1 ∨ src = .int2 then false else t.stat.ie }
        dvm := if src = .trap then s.pc else if src = .bi then s.pc + 1 else t.dvm
        svc := { t.svc with inNmi := t.svc.inNmi || src = .nmi
                            inTrap := t.svc.inTrap || src = .trap || src = .bi
                            atVector := src ≠ .trap
                            prev := if src = .trap then t.svc.prev else Previous.zero }
        out := { t.out with ack := true, sft := src = .trap }
        pc := src.vector }

/-- The jump of a return to address t (R430, R403): a saved repeat at that address resumes. -/
def State.returnTo (s : State) (t : Word) : State :=
  if s.loops.repSavedActive ∧ t = s.loops.repSavedAddr then
    { s with pc := t
             loops := { s.loops with repc := s.loops.repSavedC, repActive := true, repSavedActive := false } }
  else { s with pc := t }

/-- What `reti` and `retid` do beside the return (R432, R440): IE is set, the innermost of in_trap, in_nmi is cleared. -/
def State.endService (s : State) : State :=
  { s with
    stat := { s.stat with ie := true }
    svc := { s.svc with inTrap := false, inNmi := s.svc.inNmi && s.svc.inTrap } }

end Sys2Proof.Machine
end

