-- ==== Sys2Proof/Machine/Operands.lean ====
section
/-! DEFINITION. Every operand form: the ALU family's (40_alu.md R201), the bit-field family's (R217, R295), the
multiply family's (41_multiply.md R261), the exponent unit's (42_bmu.md R311). -/

namespace Sys2Proof.Machine

/-- How a 16-bit operand is widened (R201). -/
inductive Ext where
  | sign | zero
  deriving DecidableEq, Repr

/-- Widening to 36 bits (R201). -/
def Ext.widen (x : Ext) (v : Word) : Acc :=
  match x with
  | .sign => v.signExtend 36
  | .zero => v.setWidth 36

/-- A 16-bit operand in data memory or in a register: the three forms of the ALM and ALB families (R144, R146). -/
inductive Src where
  | direct (a : BitVec 8)
  | ind (n : RN) (m : PostMod)
  | reg (r : Reg)
  deriving DecidableEq, Repr

/-- The 16-bit operand and the state after it is read; an (rN) operand is post-modified (R201, R217). -/
def readSrc (x : Src) (s : State) (k : Word → State → Out) : Out :=
  match x with
  | .direct a => readData s (s.addrDirect a) k
  | .ind n m => readData s (s.ptr n) fun v t => k v (t.bump n m)
  | .reg r => readReg s r k

/-- The data address of a memory operand, in the state before it is read; none for a register (R217). -/
def Src.addr (x : Src) (s : State) : Option Word :=
  match x with
  | .direct a => some (s.addrDirect a)
  | .ind n _ => some (s.ptr n)
  | .reg _ => none

/-- The operand forms of the ALU family (R201). -/
inductive AluSrc where
  | direct (a : BitVec 8)
  | ind (n : RN) (m : PostMod)
  | reg (r : Reg)
  | short (v : BitVec 8)
  | long (v : Word)
  | idx7 (o : BitVec 7)
  | idx16 (v : Word)
  | dirLong (v : Word)
  deriving DecidableEq, Repr

/-- `AluOperand` (R201): a whole accumulator and the shifted p supply 36 bits, a short immediate is zero-extended,
everything else is a 16-bit operand widened as `x` says. -/
def readAlu (src : AluSrc) (x : Ext) (s : State) (k : Acc → State → Out) : Out :=
  match src with
  | .direct a => readSrc (.direct a) s fun v t => k (x.widen v) t
  | .ind n m => readSrc (.ind n m) s fun v t => k (x.widen v) t
  | .reg r =>
    if r = .a0 then k s.accs.a0 s
    else if r = .a1 then k s.accs.a1 s
    else if r = .p then k (shiftedP s.mul s.stat.ps) s
    else readSrc (.reg r) s fun v t => k (x.widen v) t
  | .short v => k (v.setWidth 36) s
  | .long v => k (x.widen v) s
  | .idx7 o => readData s (s.addrIdx7 o) fun v t => k (x.widen v) t
  | .idx16 o => readData s (s.addrIdx16 o) fun v t => k (x.widen v) t
  | .dirLong a => readData s a fun v t => k (x.widen v) t

/-- `AlbWrite` on a register (R217): an accumulator part is replaced alone; every other register takes `RegWrite16`. -/
def State.setRegPart (s : State) (r : Reg) (v : Word) : State :=
  match Reg.part r with
  | some (i, high) =>
    let x := s.accs.get i
    { s with accs := s.accs.set i (if high then replaceHigh x v else replaceLow x v) }
  | none => s.setReg r v

/-- Read, modify, write one operand (R217, R295): `f` gives the value to store and the new flags, which are set before
the write; a memory operand is written at the address that was read. -/
def modifySrc (x : Src) (s : State) (f : Word → Flags → Word × Flags) : Out :=
  readSrc x s fun v t =>
    let (w, fl) := f v t.flags
    let t := { t with flags := fl }
    match x with
    | .direct a => writeData t (s.addrDirect a) w .next
    | .ind n _ => writeData t (s.ptr n) w .next
    | .reg r => .next (t.setRegPart r w)

/-- The operand forms of the multiply family (R261). -/
inductive MulSrc where
  | yDirect (a : BitVec 8)
  | yInd (n : RN) (m : PostMod)
  | yReg (r : Reg)
  | dual (j : RJ) (jm : PostMod) (i : RI) (im : PostMod)
  | indLong (n : RN) (m : PostMod) (v : Word)
  deriving DecidableEq, Repr

/-- rJ points into Yspace and rI into Xspace or Zspace (R86). -/
def State.dualInSpaces (s : State) (j : RJ) (i : RI) : Bool :=
  s.chip.inYspace (s.ptr j.rn) && !s.chip.inYspace (s.ptr i.rn)

/-- `MulOperands` (R261): the new y, the new x, the state after the reads and post-modifications. Where the two
addresses are not in their spaces both values are free (R86, log 8). DESIGN CHOICE (log 8): neither address is then accessed,
the one in its right space included, so no device access is shown and an address with nothing behind it is not refused. -/
def readMul (src : MulSrc) (s : State) (k : Word → Word → State → Out) : Out :=
  match src with
  | .yDirect a => readSrc (.direct a) s fun v t => k s.mul.y v t
  | .yInd n m => readSrc (.ind n m) s fun v t => k s.mul.y v t
  | .yReg r => readSrc (.reg r) s fun v t => k s.mul.y v t
  | .dual j jm i im =>
    if s.dualInSpaces j i then
      readData s (s.ptr j.rn) fun y t =>
        readData t (s.ptr i.rn) fun x u => k y x ((u.bump j.rn jm).bump i.rn im)
    else
      k (Config.freeDualY s.freeCtr) (Config.freeDualX s.freeCtr)
        { ((s.bump j.rn jm).bump i.rn im) with freeCtr := s.freeCtr + 1 }
  | .indLong n m v => readSrc (.ind n m) s fun y t => k y v t

/-- The sources of `exp` (R311). -/
inductive ExpSrc where
  | ind (n : RN) (m : PostMod)
  | reg (r : Reg)
  | bAcc (b : BX)
  deriving DecidableEq, Repr

/-- The 36-bit value whose exponent is taken: an accumulator whole, a 16-bit operand in bits 31..16 (R310, R311). -/
def readExp (src : ExpSrc) (s : State) (k : Acc → State → Out) : Out :=
  match src with
  | .ind n m => readSrc (.ind n m) s fun v t => k (highAcc v) t
  | .reg r =>
    if r = .a0 then k s.accs.a0 s
    else if r = .a1 then k s.accs.a1 s
    else readSrc (.reg r) s fun v t => k (highAcc v) t
  | .bAcc b => k (s.accs.get b.ab) s

end Sys2Proof.Machine
end

