-- ==== Sys2Proof/Machine/Alu.lean ====
section
/-! DEFINITION. The arithmetic and logic instructions (40_alu.md): the shared operations, then one meaning for each
constructor. The state a meaning receives has pc at the next instruction (R35). -/

namespace Sys2Proof.Machine

/-- The functions of the ALM and ALU families that write or compare an accumulator (R144, R145). -/
inductive AluOp where
  | or | and | xor | add | sub | cmp | addh | subh | addl | subl | cmpu
  deriving DecidableEq, Repr

/-- How the function widens a 16-bit operand (R201). -/
def AluOp.ext (op : AluOp) : Ext :=
  match op with
  | .or | .and | .xor | .addl | .subl | .cmpu => .zero
  | .add | .sub | .cmp | .addh | .subh => .sign

/-- The new accumulator and the new flags from the old accumulator and the operand (R203 to R213). `and` with a short
immediate keeps bits 15..8 (R207). -/
def aluResult (op : AluOp) (short : Bool) (x b : Acc) (f : Flags) : Acc × Flags :=
  match op with
  | .or => (x ||| b, f.setZMNE (x ||| b))
  | .and =>
    let r := x &&& b
    (if short then r.extractLsb' 16 20 ++ (x.extractLsb' 8 8 ++ r.extractLsb' 0 8) else r, f.andOutput r)
  | .xor => (x ^^^ b, f.setZMNE (x ^^^ b))
  | .add | .addl => ((add36 x b).r, f.arith (add36 x b))
  | .sub | .subl => ((sub36 x b).r, f.arith (sub36 x b))
  | .cmp | .cmpu => (x, f.arith (sub36 x b))
  | .addh => ((add36 x (b <<< 16)).r, f.arith (add36 x (b <<< 16)))
  | .subh => ((sub36 x (b <<< 16)).r, f.arith (sub36 x (b <<< 16)))

/-- The operand is a short immediate (R201, R207). -/
def AluSrc.isShort (src : AluSrc) : Bool :=
  match src with
  | .short _ => true
  | .direct _ | .ind _ _ | .reg _ | .long _ | .idx7 _ | .idx16 _ | .dirLong _ => false

/-- An ALM or ALU instruction with destination aX (R203 to R213). -/
def aluOp (op : AluOp) (d : AX) (src : AluSrc) (s : State) : Out :=
  readAlu src op.ext s fun b t =>
    let x := aluResult op src.isShort (t.accs.get d.ab) b t.flags
    .next { t with accs := t.accs.set d.ab x.1, flags := x.2 }

/-- Addition or subtraction. -/
inductive AddSub where
  | add | sub
  deriving DecidableEq, Repr

/-- `addv`, `subv` (R214, R215, R217): both operands sign-extended; flags first, then the write. -/
def arithLong (op : AddSub) (x : Src) (v : Word) (s : State) : Out :=
  modifySrc x s fun a f =>
    let o := match op with
      | .add => add36 (a.signExtend 36) (v.signExtend 36)
      | .sub => sub36 (a.signExtend 36) (v.signExtend 36)
    (low16 o.r, f.arith o)

/-- `cmpv` (R216): only the flags change. -/
def compareLong (x : Src) (v : Word) (s : State) : Out :=
  readSrc x s fun a t => .next { t with flags := t.flags.arith (sub36 (a.signExtend 36) (v.signExtend 36)) }

/-- The functions of `moda`; `modb` has the first seven (R148). -/
inductive ModFn where
  | shr | shr4 | shl | shl4 | ror | rol | clr | not | neg | rnd | pacr | clrr | inc | dec | copy
  deriving DecidableEq, Repr

/-- The other accumulator of the pair (00_scope.md R11). -/
def pairOther (i : AB) : AB :=
  match i with
  | .a0 => .a1 | .a1 => .a0 | .b0 => .b1 | .b1 => .b0

/-- The new accumulator and flags of a `moda` or `modb` function (R219 to R233, R318 to R324): x the accumulator,
`other` the other of the pair, `p` the shifted p, `logic` the S bit. -/
def modResult (fn : ModFn) (x other p : Acc) (logic : Bool) (f : Flags) : Acc × Flags :=
  let shifted (n : Int) : Acc × Flags := ((shift36 x n logic).r, f.shift (shift36 x n logic) logic)
  let arith (o : AluOut) : Acc × Flags := (o.r, f.arith o)
  let plain (r : Acc) : Acc × Flags := (r, f.setZMNE r)
  match fn with
  | .shr => shifted (-1)
  | .shr4 => shifted (-4)
  | .shl => shifted 1
  | .shl4 => shifted 4
  | .ror =>
    let r : Acc := BitVec.ofBool f.c ++ x.extractLsb' 1 35
    (r, f.rotate r (x.getLsbD 0))
  | .rol =>
    let r : Acc := x.extractLsb' 0 35 ++ BitVec.ofBool f.c
    (r, f.rotate r x.msb)
  | .clr => plain 0
  | .not => plain (~~~x)
  | .neg => arith (sub36 0 x)
  | .rnd => arith (add36 x 0x8000)
  | .pacr => arith (add36 p 0x8000)
  | .clrr => plain 0x8000
  | .inc => arith (add36 x 1)
  | .dec => arith (sub36 x 1)
  | .copy => plain other

/-- `moda`, `modb` (R218, R317): the function where the condition holds, nothing where it does not. -/
def modify (fn : ModFn) (i : AB) (c : Cond) (s : State) : Out :=
  if condHolds c s.flags s.pins then
    let x := modResult fn (s.accs.get i) (s.accs.get (pairOther i)) (shiftedP s.mul s.stat.ps) s.stat.s s.flags
    .next { s with accs := s.accs.set i x.1, flags := x.2 }
  else .next s

/-- `norm` (R240): the N flag decides; on the shifting branch R reports the new rN. -/
def normStep (d : AX) (n : RN) (m : PostMod) (s : State) : Out :=
  if s.flags.n then .next s
  else
    let o := shift36 (s.accs.get d.ab) 1 false
    let t := { s with accs := s.accs.set d.ab o.r, flags := s.flags.shift o false }.bump n m
    .next { t with flags := { t.flags with r := t.ptr n == 0 } }

/-- `divs` (R241). -/
def divStep (d : AX) (a : BitVec 8) (s : State) : Out :=
  readData s (s.addrDirect a) fun v u =>
    let x := s.accs.get d.ab
    let t := x - (v.signExtend 36 <<< 15)
    .next (u.setAccFlags d.ab (if t.msb then x <<< 1 else (t <<< 1) ||| 1))

/-- The end of `max`, `maxd`, `min` (R246 to R248): the update and the latch of r0 where `take`, M, and r0's
post-modification always. -/
def extremum (d : AX) (x : Acc) (take : Bool) (m : PostMod) (s : State) : Out :=
  let t := if take then { s with accs := s.accs.set d.ab x, dau := { s.dau with mixp := s.dau.r0 } } else s
  let t := { t with flags := { t.flags with m := take } }
  .next (t.bump .r0 m)

/-- The comparison of `max` and `maxd` (R246, R247). -/
def MaxCond.takes (c : MaxCond) (new old : Acc) : Bool :=
  match c with
  | .ge => decide (old.toInt ≤ new.toInt)
  | .gt => decide (old.toInt < new.toInt)

/-- The comparison of `min` (R248). -/
def MinCond.takes (c : MinCond) (new old : Acc) : Bool :=
  match c with
  | .le => decide (new.toInt ≤ old.toInt)
  | .lt => decide (new.toInt < old.toInt)

/-- `max` (R246): against the other accumulator. -/
def maxOther (c : MaxCond) (d : AX) (m : PostMod) (s : State) : Out :=
  extremum d (s.accs.get d.other.ab) (MaxCond.takes c (s.accs.get d.other.ab) (s.accs.get d.ab)) m s

/-- `maxd` (R247): against the word at r0. -/
def maxData (c : MaxCond) (d : AX) (m : PostMod) (s : State) : Out :=
  readData s s.dau.r0 fun v t => extremum d (accFull v) (MaxCond.takes c (accFull v) (s.accs.get d.ab)) m t

/-- `min` (R248): against the other accumulator. -/
def minOther (c : MinCond) (d : AX) (m : PostMod) (s : State) : Out :=
  extremum d (s.accs.get d.other.ab) (MinCond.takes c (s.accs.get d.other.ab) (s.accs.get d.ab)) m s

/-- The source and the destination of `lim` (R249). -/
def LimOp.operands (o : LimOp) : AX × AX :=
  match o with
  | .a0 => (.a0, .a0)
  | .a0a1 => (.a0, .a1)
  | .a1a0 => (.a1, .a0)
  | .a1 => (.a1, .a1)

/-- `lim` (R249): E is cleared, L latches limitation. -/
def limit (o : LimOp) (s : State) : Out :=
  let x := limited (s.accs.get (LimOp.operands o).1.ab)
  let f := s.flags.setZMNE x.1
  .next { s with accs := s.accs.set (LimOp.operands o).2.ab x.1
                 flags := { f with e := false, l := f.l || x.2 } }

/-! ### One meaning for each instruction -/

/-- `or direct address, aX` (R206). -/
def execOrDirect (d : AX) (a : BitVec 8) (s : State) : Out := aluOp .or d (.direct a) s

/-- `or (rN), aX` (R206). -/
def execOrInd (d : AX) (n : RN) (m : PostMod) (s : State) : Out := aluOp .or d (.ind n m) s

/-- `or REG, aX` (R206). -/
def execOrReg (d : AX) (r : Reg) (s : State) : Out := aluOp .or d (.reg r) s

/-- `and direct address, aX` (R207). -/
def execAndDirect (d : AX) (a : BitVec 8) (s : State) : Out := aluOp .and d (.direct a) s

/-- `and (rN), aX` (R207). -/
def execAndInd (d : AX) (n : RN) (m : PostMod) (s : State) : Out := aluOp .and d (.ind n m) s

/-- `and REG, aX` (R207). -/
def execAndReg (d : AX) (r : Reg) (s : State) : Out := aluOp .and d (.reg r) s

/-- `xor direct address, aX` (R208). -/
def execXorDirect (d : AX) (a : BitVec 8) (s : State) : Out := aluOp .xor d (.direct a) s

/-- `xor (rN), aX` (R208). -/
def execXorInd (d : AX) (n : RN) (m : PostMod) (s : State) : Out := aluOp .xor d (.ind n m) s

/-- `xor REG, aX` (R208). -/
def execXorReg (d : AX) (r : Reg) (s : State) : Out := aluOp .xor d (.reg r) s

/-- `add direct address, aX` (R203). -/
def execAddDirect (d : AX) (a : BitVec 8) (s : State) : Out := aluOp .add d (.direct a) s

/-- `add (rN), aX` (R203). -/
def execAddInd (d : AX) (n : RN) (m : PostMod) (s : State) : Out := aluOp .add d (.ind n m) s

/-- `add REG, aX` (R203). -/
def execAddReg (d : AX) (r : Reg) (s : State) : Out := aluOp .add d (.reg r) s

/-- `cmp direct address, aX` (R205). -/
def execCmpDirect (d : AX) (a : BitVec 8) (s : State) : Out := aluOp .cmp d (.direct a) s

/-- `cmp (rN), aX` (R205). -/
def execCmpInd (d : AX) (n : RN) (m : PostMod) (s : State) : Out := aluOp .cmp d (.ind n m) s

/-- `cmp REG, aX` (R205). -/
def execCmpReg (d : AX) (r : Reg) (s : State) : Out := aluOp .cmp d (.reg r) s

/-- `sub direct address, aX` (R204). -/
def execSubDirect (d : AX) (a : BitVec 8) (s : State) : Out := aluOp .sub d (.direct a) s

/-- `sub (rN), aX` (R204). -/
def execSubInd (d : AX) (n : RN) (m : PostMod) (s : State) : Out := aluOp .sub d (.ind n m) s

/-- `sub REG, aX` (R204). -/
def execSubReg (d : AX) (r : Reg) (s : State) : Out := aluOp .sub d (.reg r) s

/-- `addh direct address, aX` (R209). -/
def execAddhDirect (d : AX) (a : BitVec 8) (s : State) : Out := aluOp .addh d (.direct a) s

/-- `addh (rN), aX` (R209). -/
def execAddhInd (d : AX) (n : RN) (m : PostMod) (s : State) : Out := aluOp .addh d (.ind n m) s

/-- `addh REG, aX` (R209). -/
def execAddhReg (d : AX) (r : Reg) (s : State) : Out := aluOp .addh d (.reg r) s

/-- `addl direct address, aX` (R211). -/
def execAddlDirect (d : AX) (a : BitVec 8) (s : State) : Out := aluOp .addl d (.direct a) s

/-- `addl (rN), aX` (R211). -/
def execAddlInd (d : AX) (n : RN) (m : PostMod) (s : State) : Out := aluOp .addl d (.ind n m) s

/-- `addl REG, aX` (R211). -/
def execAddlReg (d : AX) (r : Reg) (s : State) : Out := aluOp .addl d (.reg r) s

/-- `subh direct address, aX` (R210). -/
def execSubhDirect (d : AX) (a : BitVec 8) (s : State) : Out := aluOp .subh d (.direct a) s

/-- `subh (rN), aX` (R210). -/
def execSubhInd (d : AX) (n : RN) (m : PostMod) (s : State) : Out := aluOp .subh d (.ind n m) s

/-- `subh REG, aX` (R210). -/
def execSubhReg (d : AX) (r : Reg) (s : State) : Out := aluOp .subh d (.reg r) s

/-- `subl direct address, aX` (R212). -/
def execSublDirect (d : AX) (a : BitVec 8) (s : State) : Out := aluOp .subl d (.direct a) s

/-- `subl (rN), aX` (R212). -/
def execSublInd (d : AX) (n : RN) (m : PostMod) (s : State) : Out := aluOp .subl d (.ind n m) s

/-- `subl REG, aX` (R212). -/
def execSublReg (d : AX) (r : Reg) (s : State) : Out := aluOp .subl d (.reg r) s

/-- `cmpu direct address, aX` (R213). -/
def execCmpuDirect (d : AX) (a : BitVec 8) (s : State) : Out := aluOp .cmpu d (.direct a) s

/-- `cmpu (rN), aX` (R213). -/
def execCmpuInd (d : AX) (n : RN) (m : PostMod) (s : State) : Out := aluOp .cmpu d (.ind n m) s

/-- `cmpu REG, aX` (R213). -/
def execCmpuReg (d : AX) (r : Reg) (s : State) : Out := aluOp .cmpu d (.reg r) s

/-- `or #unsigned short immediate, aX` (R206). -/
def execOrShort (d : AX) (v : BitVec 8) (s : State) : Out := aluOp .or d (.short v) s

/-- `or ##long immediate, aX` (R206). -/
def execOrLong (d : AX) (v : Word) (s : State) : Out := aluOp .or d (.long v) s

/-- `or (rb+#offset7), aX` (R206). -/
def execOrIdx7 (d : AX) (o : BitVec 7) (s : State) : Out := aluOp .or d (.idx7 o) s

/-- `or (rb+##offset), aX` (R206). -/
def execOrIdx16 (d : AX) (v : Word) (s : State) : Out := aluOp .or d (.idx16 v) s

/-- `or [##direct address], aX` (R206). -/
def execOrDirLong (d : AX) (v : Word) (s : State) : Out := aluOp .or d (.dirLong v) s

/-- `and #unsigned short immediate, aX` (R207). -/
def execAndShort (d : AX) (v : BitVec 8) (s : State) : Out := aluOp .and d (.short v) s

/-- `and ##long immediate, aX` (R207). -/
def execAndLong (d : AX) (v : Word) (s : State) : Out := aluOp .and d (.long v) s

/-- `and (rb+#offset7), aX` (R207). -/
def execAndIdx7 (d : AX) (o : BitVec 7) (s : State) : Out := aluOp .and d (.idx7 o) s

/-- `and (rb+##offset), aX` (R207). -/
def execAndIdx16 (d : AX) (v : Word) (s : State) : Out := aluOp .and d (.idx16 v) s

/-- `and [##direct address], aX` (R207). -/
def execAndDirLong (d : AX) (v : Word) (s : State) : Out := aluOp .and d (.dirLong v) s

/-- `xor #unsigned short immediate, aX` (R208). -/
def execXorShort (d : AX) (v : BitVec 8) (s : State) : Out := aluOp .xor d (.short v) s

/-- `xor ##long immediate, aX` (R208). -/
def execXorLong (d : AX) (v : Word) (s : State) : Out := aluOp .xor d (.long v) s

/-- `xor (rb+#offset7), aX` (R208). -/
def execXorIdx7 (d : AX) (o : BitVec 7) (s : State) : Out := aluOp .xor d (.idx7 o) s

/-- `xor (rb+##offset), aX` (R208). -/
def execXorIdx16 (d : AX) (v : Word) (s : State) : Out := aluOp .xor d (.idx16 v) s

/-- `xor [##direct address], aX` (R208). -/
def execXorDirLong (d : AX) (v : Word) (s : State) : Out := aluOp .xor d (.dirLong v) s

/-- `add #unsigned short immediate, aX` (R203). -/
def execAddShort (d : AX) (v : BitVec 8) (s : State) : Out := aluOp .add d (.short v) s

/-- `add ##long immediate, aX` (R203). -/
def execAddLong (d : AX) (v : Word) (s : State) : Out := aluOp .add d (.long v) s

/-- `add (rb+#offset7), aX` (R203). -/
def execAddIdx7 (d : AX) (o : BitVec 7) (s : State) : Out := aluOp .add d (.idx7 o) s

/-- `add (rb+##offset), aX` (R203). -/
def execAddIdx16 (d : AX) (v : Word) (s : State) : Out := aluOp .add d (.idx16 v) s

/-- `add [##direct address], aX` (R203). -/
def execAddDirLong (d : AX) (v : Word) (s : State) : Out := aluOp .add d (.dirLong v) s

/-- `cmp #unsigned short immediate, aX` (R205). -/
def execCmpShort (d : AX) (v : BitVec 8) (s : State) : Out := aluOp .cmp d (.short v) s

/-- `cmp ##long immediate, aX` (R205). -/
def execCmpLong (d : AX) (v : Word) (s : State) : Out := aluOp .cmp d (.long v) s

/-- `cmp (rb+#offset7), aX` (R205). -/
def execCmpIdx7 (d : AX) (o : BitVec 7) (s : State) : Out := aluOp .cmp d (.idx7 o) s

/-- `cmp (rb+##offset), aX` (R205). -/
def execCmpIdx16 (d : AX) (v : Word) (s : State) : Out := aluOp .cmp d (.idx16 v) s

/-- `cmp [##direct address], aX` (R205). -/
def execCmpDirLong (d : AX) (v : Word) (s : State) : Out := aluOp .cmp d (.dirLong v) s

/-- `sub #unsigned short immediate, aX` (R204). -/
def execSubShort (d : AX) (v : BitVec 8) (s : State) : Out := aluOp .sub d (.short v) s

/-- `sub ##long immediate, aX` (R204). -/
def execSubLong (d : AX) (v : Word) (s : State) : Out := aluOp .sub d (.long v) s

/-- `sub (rb+#offset7), aX` (R204). -/
def execSubIdx7 (d : AX) (o : BitVec 7) (s : State) : Out := aluOp .sub d (.idx7 o) s

/-- `sub (rb+##offset), aX` (R204). -/
def execSubIdx16 (d : AX) (v : Word) (s : State) : Out := aluOp .sub d (.idx16 v) s

/-- `sub [##direct address], aX` (R204). -/
def execSubDirLong (d : AX) (v : Word) (s : State) : Out := aluOp .sub d (.dirLong v) s

/-- `shr aX [, cond]` (R219). -/
def execShrA (d : AX) (c : Cond) (s : State) : Out := modify .shr d.ab c s

/-- `shr4 aX [, cond]` (R220). -/
def execShr4A (d : AX) (c : Cond) (s : State) : Out := modify .shr4 d.ab c s

/-- `shl aX [, cond]` (R221). -/
def execShlA (d : AX) (c : Cond) (s : State) : Out := modify .shl d.ab c s

/-- `shl4 aX [, cond]` (R222). -/
def execShl4A (d : AX) (c : Cond) (s : State) : Out := modify .shl4 d.ab c s

/-- `ror aX [, cond]` (R223). -/
def execRorA (d : AX) (c : Cond) (s : State) : Out := modify .ror d.ab c s

/-- `rol aX [, cond]` (R224). -/
def execRolA (d : AX) (c : Cond) (s : State) : Out := modify .rol d.ab c s

/-- `clr aX [, cond]` (R225). -/
def execClrA (d : AX) (c : Cond) (s : State) : Out := modify .clr d.ab c s

/-- `not aX [, cond]` (R226). -/
def execNotA (d : AX) (c : Cond) (s : State) : Out := modify .not d.ab c s

/-- `neg aX [, cond]` (R227). -/
def execNegA (d : AX) (c : Cond) (s : State) : Out := modify .neg d.ab c s

/-- `rnd aX [, cond]` (R228). -/
def execRndA (d : AX) (c : Cond) (s : State) : Out := modify .rnd d.ab c s

/-- `pacr aX [, cond]` (R229). -/
def execPacrA (d : AX) (c : Cond) (s : State) : Out := modify .pacr d.ab c s

/-- `clrr aX [, cond]` (R230). -/
def execClrrA (d : AX) (c : Cond) (s : State) : Out := modify .clrr d.ab c s

/-- `inc aX [, cond]` (R231). -/
def execIncA (d : AX) (c : Cond) (s : State) : Out := modify .inc d.ab c s

/-- `dec aX [, cond]` (R232). -/
def execDecA (d : AX) (c : Cond) (s : State) : Out := modify .dec d.ab c s

/-- `copy aX [, cond]` (R233). -/
def execCopyA (d : AX) (c : Cond) (s : State) : Out := modify .copy d.ab c s

/-- `norm` (R240). -/
def execNorm (d : AX) (n : RN) (m : PostMod) (s : State) : Out := normStep d n m s

/-- `divs` (R241). -/
def execDivs (d : AX) (a : BitVec 8) (s : State) : Out := divStep d a s

/-- `addv ##long immediate, (rN)` (R214). -/
def execAddvInd (n : RN) (m : PostMod) (v : Word) (s : State) : Out := arithLong .add (.ind n m) v s

/-- `addv ##long immediate, REG` (R214). -/
def execAddvReg (r : Reg) (v : Word) (s : State) : Out := arithLong .add (.reg r) v s

/-- `addv ##long immediate, direct address` (R214). -/
def execAddvDirect (a : BitVec 8) (v : Word) (s : State) : Out := arithLong .add (.direct a) v s

/-- `cmpv ##long immediate, (rN)` (R216). -/
def execCmpvInd (n : RN) (m : PostMod) (v : Word) (s : State) : Out := compareLong (.ind n m) v s

/-- `cmpv ##long immediate, REG` (R216). -/
def execCmpvReg (r : Reg) (v : Word) (s : State) : Out := compareLong (.reg r) v s

/-- `cmpv ##long immediate, direct address` (R216). -/
def execCmpvDirect (a : BitVec 8) (v : Word) (s : State) : Out := compareLong (.direct a) v s

/-- `subv ##long immediate, (rN)` (R215). -/
def execSubvInd (n : RN) (m : PostMod) (v : Word) (s : State) : Out := arithLong .sub (.ind n m) v s

/-- `subv ##long immediate, REG` (R215). -/
def execSubvReg (r : Reg) (v : Word) (s : State) : Out := arithLong .sub (.reg r) v s

/-- `subv ##long immediate, direct address` (R215). -/
def execSubvDirect (a : BitVec 8) (v : Word) (s : State) : Out := arithLong .sub (.direct a) v s

/-- `maxd` (R247). -/
def execMaxd (c : MaxCond) (d : AX) (m : PostMod) (s : State) : Out := maxData c d m s

/-- `max` (R246). -/
def execMax (c : MaxCond) (d : AX) (m : PostMod) (s : State) : Out := maxOther c d m s

/-- `min` (R248). -/
def execMin (c : MinCond) (d : AX) (m : PostMod) (s : State) : Out := minOther c d m s

/-- `lim` with a0 (R249). -/
def execLimA0 (s : State) : Out := limit (.a0 : LimOp) s

/-- `lim` with a0a1 (R249). -/
def execLimA0A1 (s : State) : Out := limit (.a0a1 : LimOp) s

/-- `lim` with a1a0 (R249). -/
def execLimA1A0 (s : State) : Out := limit (.a1a0 : LimOp) s

/-- `lim` with a1 (R249). -/
def execLimA1 (s : State) : Out := limit (.a1 : LimOp) s

end Sys2Proof.Machine
end

