-- ==== Sys2Proof/Machine/Bmu.lean ====
section
/-! DEFINITION. The bit-manipulation unit (42_bmu.md): the shared operations, then one meaning for each constructor. -/

namespace Sys2Proof.Machine

/-- The bit-field operations that write (R301 to R303). -/
inductive BitOp where
  | set | rst | chng
  deriving DecidableEq, Repr

/-- The 16-bit result (R301 to R303). -/
def BitOp.apply (op : BitOp) (a v : Word) : Word :=
  match op with
  | .set => a ||| v
  | .rst => a &&& ~~~v
  | .chng => a ^^^ v

/-- `set`, `rst`, `chng` (R295, R300): flags first, then the write. -/
def bitField (op : BitOp) (x : Src) (v : Word) (s : State) : Out :=
  modifySrc x s fun a f => (op.apply a v, f.bitField (op.apply a v))

/-- Whether a test looks for zeros or for ones (R304, R306). -/
inductive TestKind where
  | zeros | ones
  deriving DecidableEq, Repr

/-- The Z flag of `tst0`, `tst1` (R304 to R307). -/
def TestKind.z (k : TestKind) (a mask : Word) : Bool :=
  match k with
  | .zeros => a &&& mask == 0
  | .ones => ~~~a &&& mask == 0

/-- `tst0`, `tst1` with the mask in aXl (R304, R306). -/
def testMask (k : TestKind) (d : AX) (x : Src) (s : State) : Out :=
  readSrc x s fun a t => .next { t with flags := { t.flags with z := k.z a (low16 (t.accs.get d.ab)) } }

/-- `tst0`, `tst1` with the mask in the operand word (R305, R307). -/
def testLong (k : TestKind) (x : Src) (v : Word) (s : State) : Out :=
  readSrc x s fun a t => .next { t with flags := { t.flags with z := k.z a v } }

/-- `tstb` (R308). -/
def testBit (b : BitVec 4) (x : Src) (s : State) : Out :=
  readSrc x s fun a t => .next { t with flags := { t.flags with z := a.getLsbD b.toNat } }

/-- A shift of x by sv into accumulator i (R290, R291); outside -36..36 the result and the flags are free (log 7). -/
def shiftBySv (x : Acc) (i : AB) (s : State) : Out :=
  if -36 ≤ s.sv.toInt ∧ s.sv.toInt ≤ 36 then
    let o := shift36 x s.sv.toInt s.stat.s
    .next { s with accs := s.accs.set i o.r, flags := s.flags.shift o s.stat.s }
  else
    .next { s with accs := s.accs.set i (Config.freeShift s.freeCtr)
                   flags := s.flags.freeShift (Config.freeShiftFlags s.freeCtr)
                   freeCtr := s.freeCtr + 1 }

/-- `shfc` (R315). -/
def shiftCond (src d : AB) (c : Cond) (s : State) : Out :=
  if condHolds c s.flags s.pins then shiftBySv (s.accs.get src) d s else .next s

/-- `shfi` (R316). -/
def shiftImm (src d : AB) (k : BitVec 6) (s : State) : Out :=
  let o := shift36 (s.accs.get src) k.toInt s.stat.s
  .next { s with accs := s.accs.set d o.r, flags := s.flags.shift o s.stat.s }

/-- `exp` (R311): sv, and aX where the form names one; no flag changes. -/
def exponent (src : ExpSrc) (d : Option AX) (s : State) : Out :=
  readExp src s fun x t =>
    .next { t with
      sv := BitVec.ofInt 16 (exp36 x)
      accs := match d with
        | some i => t.accs.set i.ab (BitVec.ofInt 36 (exp36 x))
        | none => t.accs }

/-! ### One meaning for each instruction -/

/-- `tst0 aXl, direct address` (R304). -/
def execTst0Direct (d : AX) (a : BitVec 8) (s : State) : Out := testMask .zeros d (.direct a) s

/-- `tst0 aXl, (rN)` (R304). -/
def execTst0Ind (d : AX) (n : RN) (m : PostMod) (s : State) : Out := testMask .zeros d (.ind n m) s

/-- `tst0 aXl, REG` (R304). -/
def execTst0Reg (d : AX) (r : Reg) (s : State) : Out := testMask .zeros d (.reg r) s

/-- `tst1 aXl, direct address` (R306). -/
def execTst1Direct (d : AX) (a : BitVec 8) (s : State) : Out := testMask .ones d (.direct a) s

/-- `tst1 aXl, (rN)` (R306). -/
def execTst1Ind (d : AX) (n : RN) (m : PostMod) (s : State) : Out := testMask .ones d (.ind n m) s

/-- `tst1 aXl, REG` (R306). -/
def execTst1Reg (d : AX) (r : Reg) (s : State) : Out := testMask .ones d (.reg r) s

/-- `set ##long immediate, (rN)` (R301). -/
def execSetInd (n : RN) (m : PostMod) (v : Word) (s : State) : Out := bitField .set (.ind n m) v s

/-- `set ##long immediate, REG` (R301). -/
def execSetReg (r : Reg) (v : Word) (s : State) : Out := bitField .set (.reg r) v s

/-- `set ##long immediate, direct address` (R301). -/
def execSetDirect (a : BitVec 8) (v : Word) (s : State) : Out := bitField .set (.direct a) v s

/-- `rst ##long immediate, (rN)` (R302). -/
def execRstInd (n : RN) (m : PostMod) (v : Word) (s : State) : Out := bitField .rst (.ind n m) v s

/-- `rst ##long immediate, REG` (R302). -/
def execRstReg (r : Reg) (v : Word) (s : State) : Out := bitField .rst (.reg r) v s

/-- `rst ##long immediate, direct address` (R302). -/
def execRstDirect (a : BitVec 8) (v : Word) (s : State) : Out := bitField .rst (.direct a) v s

/-- `chng ##long immediate, (rN)` (R303). -/
def execChngInd (n : RN) (m : PostMod) (v : Word) (s : State) : Out := bitField .chng (.ind n m) v s

/-- `chng ##long immediate, REG` (R303). -/
def execChngReg (r : Reg) (v : Word) (s : State) : Out := bitField .chng (.reg r) v s

/-- `chng ##long immediate, direct address` (R303). -/
def execChngDirect (a : BitVec 8) (v : Word) (s : State) : Out := bitField .chng (.direct a) v s

/-- `tst0 ##long immediate, (rN)` (R305). -/
def execTst0LongInd (n : RN) (m : PostMod) (v : Word) (s : State) : Out := testLong .zeros (.ind n m) v s

/-- `tst0 ##long immediate, REG` (R305). -/
def execTst0LongReg (r : Reg) (v : Word) (s : State) : Out := testLong .zeros (.reg r) v s

/-- `tst0 ##long immediate, direct address` (R305). -/
def execTst0LongDirect (a : BitVec 8) (v : Word) (s : State) : Out := testLong .zeros (.direct a) v s

/-- `tst1 ##long immediate, (rN)` (R307). -/
def execTst1LongInd (n : RN) (m : PostMod) (v : Word) (s : State) : Out := testLong .ones (.ind n m) v s

/-- `tst1 ##long immediate, REG` (R307). -/
def execTst1LongReg (r : Reg) (v : Word) (s : State) : Out := testLong .ones (.reg r) v s

/-- `tst1 ##long immediate, direct address` (R307). -/
def execTst1LongDirect (a : BitVec 8) (v : Word) (s : State) : Out := testLong .ones (.direct a) v s

/-- `tstb (rN)` (R308). -/
def execTstbInd (k : BitVec 4) (n : RN) (m : PostMod) (s : State) : Out := testBit k (.ind n m) s

/-- `tstb register` (R308). -/
def execTstbReg (k : BitVec 4) (r : Reg) (s : State) : Out := testBit k (.reg r) s

/-- `tstb direct` (R308). -/
def execTstbDirect (k : BitVec 4) (a : BitVec 8) (s : State) : Out := testBit k (.direct a) s

/-- `shfc` (R315). -/
def execShfc (src : AB) (d : AB) (c : Cond) (s : State) : Out := shiftCond src d c s

/-- `shfi` (R316). -/
def execShfi (src : AB) (d : AB) (k : BitVec 6) (s : State) : Out := shiftImm src d k s

/-- `shr bX [, cond]` (R318). -/
def execShrB (d : BX) (c : Cond) (s : State) : Out := modify .shr d.ab c s

/-- `shr4 bX [, cond]` (R319). -/
def execShr4B (d : BX) (c : Cond) (s : State) : Out := modify .shr4 d.ab c s

/-- `shl bX [, cond]` (R320). -/
def execShlB (d : BX) (c : Cond) (s : State) : Out := modify .shl d.ab c s

/-- `shl4 bX [, cond]` (R321). -/
def execShl4B (d : BX) (c : Cond) (s : State) : Out := modify .shl4 d.ab c s

/-- `ror bX [, cond]` (R322). -/
def execRorB (d : BX) (c : Cond) (s : State) : Out := modify .ror d.ab c s

/-- `rol bX [, cond]` (R323). -/
def execRolB (d : BX) (c : Cond) (s : State) : Out := modify .rol d.ab c s

/-- `clr bX [, cond]` (R324). -/
def execClrB (d : BX) (c : Cond) (s : State) : Out := modify .clr d.ab c s

/-- `exp (rN),aX` (R311). -/
def execExpIndA (d : AX) (n : RN) (m : PostMod) (s : State) : Out := exponent (.ind n m) (some d) s

/-- `exp register,aX` (R311). -/
def execExpRegA (d : AX) (r : Reg) (s : State) : Out := exponent (.reg r) (some d) s

/-- `exp (rN),sv` (R311). -/
def execExpIndSv (n : RN) (m : PostMod) (s : State) : Out := exponent (.ind n m) none s

/-- `exp register,sv` (R311). -/
def execExpRegSv (r : Reg) (s : State) : Out := exponent (.reg r) none s

/-- `exp bX,aX` with a0, b0 (R311). -/
def execExpB0A0 (s : State) : Out := exponent (.bAcc (.b0 : BX)) (some (.a0 : AX)) s

/-- `exp bX,aX` with a0, b1 (R311). -/
def execExpB1A0 (s : State) : Out := exponent (.bAcc (.b1 : BX)) (some (.a0 : AX)) s

/-- `exp bX,aX` with a1, b0 (R311). -/
def execExpB0A1 (s : State) : Out := exponent (.bAcc (.b0 : BX)) (some (.a1 : AX)) s

/-- `exp bX,aX` with a1, b1 (R311). -/
def execExpB1A1 (s : State) : Out := exponent (.bAcc (.b1 : BX)) (some (.a1 : AX)) s

/-- `exp bX,sv` with b0 (R311). -/
def execExpB0Sv (s : State) : Out := exponent (.bAcc (.b0 : BX)) none s

/-- `exp bX,sv` with b1 (R311). -/
def execExpB1Sv (s : State) : Out := exponent (.bAcc (.b1 : BX)) none s

end Sys2Proof.Machine
end

