-- ==== Sys2Proof/Machine/Branch.lean ====
section
/-! DEFINITION. Branches, calls and returns (45_branch.md). The state a meaning receives has pc at the next
instruction, A + W (R420). -/

namespace Sys2Proof.Machine

/-- `br`, `brr` (R421, R422). -/
def branch (c : Cond) (target : Word) (s : State) : Out :=
  if condHolds c s.flags s.pins then .next { s with pc := target } else .next s

/-- `call`, `callr`, `calla` (R423 to R425). Not taken with the stack in Zspace, the return address is written below
the stack all the same (R111). -/
def callTo (c : Cond) (target : Word) (s : State) : Out :=
  if condHolds c s.flags s.pins then push s s.pc fun t => .next { t with pc := target }
  else if s.chip.inZspace (s.dau.sp - 1) then writeData s (s.dau.sp - 1) s.pc .next
  else .next s

/-- `ret` (R430). -/
def returnIf (c : Cond) (s : State) : Out :=
  if condHolds c s.flags s.pins then pop s fun v t => .next (t.returnTo v) else .next s

/-- `reti` (R432): with `context`, the context restore of R463 as well. -/
def returnInterrupt (c : Cond) (context : Bool) (s : State) : Out :=
  if condHolds c s.flags s.pins then
    pop s fun v t =>
      let u := (t.returnTo v).endService
      let u := { u with svc := { u.svc with afterTrap := s.svc.inTrap } }
      .next (if context then u.contextRestore else u)
  else .next s

/-- `rets` (R434): the parameters are dropped after the pop. -/
def returnAdjust (v : BitVec 8) (s : State) : Out :=
  pop s fun a t =>
    let u := t.returnTo a
    .next { u with dau := { u.dau with sp := u.dau.sp + v.setWidth 16 } }

/-- The pop of a delayed return (R436, R440); the jump is Sys2Proof/Machine/Boundary.lean's. -/
def delayReturn (fromTrap : Bool) (s : State) : Out :=
  pop s fun v t => .next { t with svc := { t.svc with dret := some { target := v, left := 2, fromTrap := fromTrap } } }

/-- `retd` (R436). -/
def returnDelayed (s : State) : Out := delayReturn false s

/-- `retid` (R440). -/
def returnInterruptDelayed (s : State) : Out := delayReturn s.svc.inTrap s.endService

/-! ### One meaning for each instruction -/

/-- `br` (R421). -/
def execBr (c : Cond) (v : Word) (s : State) : Out := branch c v s

/-- `brr` (R422). -/
def execBrr (o : BitVec 7) (c : Cond) (s : State) : Out := branch c (s.relative o) s

/-- `call` (R423). -/
def execCall (c : Cond) (v : Word) (s : State) : Out := callTo c v s

/-- `callr` (R424). -/
def execCallr (o : BitVec 7) (c : Cond) (s : State) : Out := callTo c (s.relative o) s

/-- `ret` (R430). -/
def execRet (c : Cond) (s : State) : Out := returnIf c s

/-- `reti` (R432). -/
def execReti (ctx : Bool) (c : Cond) (s : State) : Out := returnInterrupt c ctx s

/-- `rets` (R434). -/
def execRets (v : BitVec 8) (s : State) : Out := returnAdjust v s

/-- `calla` with a0 (R425). -/
def execCallaA0 (s : State) : Out := callTo .always (low16 (s.accs.get (.a0 : AX).ab)) s

/-- `calla` with a1 (R425). -/
def execCallaA1 (s : State) : Out := callTo .always (low16 (s.accs.get (.a1 : AX).ab)) s

/-- `retd` (R436). -/
def execRetd (s : State) : Out := returnDelayed s

/-- `retid` (R440). -/
def execRetid (s : State) : Out := returnInterruptDelayed s

end Sys2Proof.Machine
end

