-- ==== Sys2Proof/Machine/Control.lean ====
section
/-! DEFINITION. The control instructions (46_control.md). -/

namespace Sys2Proof.Machine

/-- `nop` (R450). -/
def noOperation (s : State) : Out := .next s

/-- `modr` (R451): with dmod the modulo option is off. -/
def modifyPointer (dmod : Bool) (n : RN) (m : PostMod) (s : State) : Out :=
  let v := s.postMod n m (!dmod && s.moduloOn n)
  let t := s.setPtr n v
  .next { t with flags := { t.flags with r := v == 0 } }

/-- `eint`, `dint` (R452, R453). -/
def setInterruptEnable (b : Bool) (s : State) : Out := .next { s with stat := { s.stat with ie := b } }

/-- `trap` (R454): the entry of R508; refused in a TRAP/BI routine (U19). -/
def takeTrap (s : State) : Out := if s.svc.inTrap then .refused .trapInTrap else enter .trap s

/-- `load #imm8, page` (R455). -/
def loadPageField (v : BitVec 8) (s : State) : Out := .next { s with stat := { s.stat with page := v } }

/-- `load #imm9, modi` (R456). -/
def loadModi (v : BitVec 9) (s : State) : Out :=
  .next { s with dau := { s.dau with cfgi := v ++ s.dau.cfgi.extractLsb' 0 7 } }

/-- `load #imm9, modj` (R456). -/
def loadModj (v : BitVec 9) (s : State) : Out :=
  .next { s with dau := { s.dau with cfgj := v ++ s.dau.cfgj.extractLsb' 0 7 } }

/-- `load #imm7, stepi` (R457). -/
def loadStepi (v : BitVec 7) (s : State) : Out :=
  .next { s with dau := { s.dau with cfgi := s.dau.cfgi.extractLsb' 7 9 ++ v } }

/-- `load #imm7, stepj` (R457). -/
def loadStepj (v : BitVec 7) (s : State) : Out :=
  .next { s with dau := { s.dau with cfgj := s.dau.cfgj.extractLsb' 7 9 ++ v } }

/-- `load #imm2, ps` (R458). -/
def loadPsField (v : BitVec 2) (s : State) : Out := .next { s with stat := { s.stat with ps := v } }

/-- `cntx s` (R460, R462). -/
def contextStoreInstr (s : State) : Out := .next s.contextStore

/-- `cntx r` (R461, R463). -/
def contextRestoreInstr (s : State) : Out := .next s.contextRestore

/-! ### One meaning for each instruction -/

/-- `modr` (R451). -/
def execModr (dmod : Bool) (n : RN) (m : PostMod) (s : State) : Out := modifyPointer dmod n m s

/-- `load page` (R455). -/
def execLoadPage (v : BitVec 8) (s : State) : Out := loadPageField v s

/-- `load modi` (R456). -/
def execLoadModi (v : BitVec 9) (s : State) : Out := loadModi v s

/-- `load modj` (R456). -/
def execLoadModj (v : BitVec 9) (s : State) : Out := loadModj v s

/-- `load stepi` (R457). -/
def execLoadStepi (v : BitVec 7) (s : State) : Out := loadStepi v s

/-- `load stepj` (R457). -/
def execLoadStepj (v : BitVec 7) (s : State) : Out := loadStepj v s

/-- `load ps` (R458). -/
def execLoadPs (v : BitVec 2) (s : State) : Out := loadPsField v s

/-- `cntx s` (R460). -/
def execCntxS (s : State) : Out := contextStoreInstr s

/-- `cntx r` (R461). -/
def execCntxR (s : State) : Out := contextRestoreInstr s

/-- `nop` (R450). -/
def execNop (s : State) : Out := noOperation s

/-- `eint` (R452). -/
def execEint (s : State) : Out := setInterruptEnable true s

/-- `dint` (R453). -/
def execDint (s : State) : Out := setInterruptEnable false s

/-- `trap` (R454). -/
def execTrap (s : State) : Out := takeTrap s

end Sys2Proof.Machine
end

