-- ==== Sys2Proof/Machine/Loop.lean ====
section
/-! DEFINITION. The hardware loops (44_loop.md): `rep`, `bkrep`, `break`. What the loops do at the end of an
instruction is in Sys2Proof/Machine/Boundary.lean. -/

namespace Sys2Proof.Machine

/-- `rep` (R400): repc is loaded and the next instruction is under repetition. -/
def repeatCount (n : Word) (s : State) : Out :=
  .next { s with loops := { s.loops with repc := n, repActive := true } }

/-- `rep REG` (R401). -/
def repeatReg (r : Reg) (s : State) : Out := readReg s r fun v t => repeatCount v t

/-- Some active level has this last address (R407: no two loops may). -/
def State.lastInUse (s : State) (a : Word) : Bool :=
  (List.range s.icr.bc.toNat).any fun k => (s.loops.level (k + 1)).last == a

/-- `bkrep` (R404, R410): pc is the address after the instruction, the first of the loop. -/
def blockRepeat (n last : Word) (s : State) : Out :=
  if 4 ≤ s.icr.bc.toNat then .refused .loopTooDeep
  else if last ≤ s.pc then .refused .loopTooShort
  else if s.lastInUse last then .refused .loopSameLast
  else
    let level := s.icr.bc.toNat + 1
    let saved := if s.icr.bc = 0 then (s.loops.level level).savedLc else s.loops.lc
    .next { s with
      icr := { s.icr with bc := s.icr.bc + 1, lp := true }
      loops := { s.loops.setLevel level { start := s.pc, last := last, savedLc := saved } with lc := n } }

/-- `bkrep REG` (R405): inside a loop lc is an excluded operand, refused with the word and its address, pc - 2 (R158, R159). -/
def blockRepeatReg (r : Reg) (last : Word) (s : State) : Out :=
  if r = .lc ∧ s.icr.bc ≠ 0 then .refused (.excludedOperand (Memory.word s.pmem (s.pc - 2)) (s.pc - 2))
  else readReg s r fun v t => blockRepeat v last t

/-- `break` (R408, R410). -/
def breakBlock (s : State) : Out :=
  if s.icr.bc = 0 then .refused .breakOutsideLoop else .next s.popLevel

/-! ### One meaning for each instruction -/

/-- `rep register` (R401). -/
def execRepReg (r : Reg) (s : State) : Out := repeatReg r s

/-- `rep #short` (R400). -/
def execRepShort (v : BitVec 8) (s : State) : Out := repeatCount (v.setWidth 16) s

/-- `bkrep #short` (R404). -/
def execBkrepShort (v : BitVec 8) (w2 : Word) (s : State) : Out := blockRepeat (v.setWidth 16) w2 s

/-- `bkrep register` (R405). -/
def execBkrepReg (r : Reg) (w2 : Word) (s : State) : Out := blockRepeatReg r w2 s

/-- `break` (R408). -/
def execBreakLoop (s : State) : Out := breakBlock s

end Sys2Proof.Machine
end

