-- ==== Sys2Proof/Machine/Move.lean ====
section
/-! DEFINITION. The moves (43_move.md): the shared operations, then one meaning for each constructor. -/

namespace Sys2Proof.Machine

/-- `mov REG, REG` (R331): p moves whole, to a0 or a1 only. -/
def movRegToReg (r d : Reg) (s : State) : Out :=
  if r = .p then
    if d = .a0 then .next (s.setAccFlags .a0 (shiftedP s.mul s.stat.ps))
    else if d = .a1 then .next (s.setAccFlags .a1 (shiftedP s.mul s.stat.ps))
    else .refused .notSixteenBits
  else readMovSource s r fun v t => writeMovDest t d v

/-- `mov ab, ab` (R332): all 36 bits, no saturation. -/
def movAcc (src d : AB) (s : State) : Out := .next (s.setAccFlags d (s.accs.get src))

/-- A 16-bit value into a whole accumulator, sign-extended (R30, R330). -/
def movToAcc (v : Word) (d : AB) (s : State) : Out := .next (s.setAccFlags d (accFull v))

/-- A 16-bit value into a register (R330). -/
def movToReg (v : Word) (r : Reg) (s : State) : Out := writeMovDest s r v

/-- `mov REG, bX` (R336). -/
def movRegToAcc (r : Reg) (d : AB) (s : State) : Out :=
  readMovSource s r fun v t => .next (t.setAccFlags d (accFull v))

/-- `mov REG, mixp` (R337). -/
def movRegToMixp (r : Reg) (s : State) : Out :=
  readMovSource s r fun v t => .next { t with dau := { t.dau with mixp := v } }

/-- `mov REG, (rN)` (R333). -/
def movRegToInd (r : Reg) (n : RN) (m : PostMod) (s : State) : Out :=
  readMovSource s r fun v t => writeData t (t.ptr n) v fun u => .next (u.bump n m)

/-- `mov (rN), REG` (R334): the register is written last. -/
def movIndToReg (n : RN) (m : PostMod) (r : Reg) (s : State) : Out :=
  readData s (s.ptr n) fun v t => writeMovDest (t.bump n m) r v

/-- `mov (rN), bX` (R335). -/
def movIndToAcc (n : RN) (m : PostMod) (d : AB) (s : State) : Out :=
  readData s (s.ptr n) fun v t => .next ((t.bump n m).setAccFlags d (accFull v))

/-- `mov (sp), REG` (R339): sp is not changed. -/
def movTopToReg (r : Reg) (s : State) : Out := readData s s.dau.sp fun v t => writeMovDest t r v

/-- `mov rN*, direct` (R340). -/
def movRnToDirect (n : RNStar) (a : BitVec 8) (s : State) : Out :=
  writeData s (s.addrDirect a) (s.regValue n.reg) .next

/-- `mov ABLH, direct` (R341). -/
def movPartToDirect (q : AccPart) (a : BitVec 8) (s : State) : Out :=
  readPart s (AccPart.part q).1 (AccPart.part q).2 fun v t => writeData t (t.addrDirect a) v .next

/-- `mov direct, rN*` (R342). -/
def movDirectToReg (a : BitVec 8) (r : Reg) (s : State) : Out :=
  readData s (s.addrDirect a) fun v t => writeMovDest t r v

/-- `mov` of a data word into a whole accumulator (R348, R365, R367). -/
def movMemToAcc (a : Word) (d : AB) (s : State) : Out :=
  readData s a fun v t => .next (t.setAccFlags d (accFull v))

/-- `mov direct, AB` (R343). -/
def movDirectToAcc (a : BitVec 8) (d : AB) (s : State) : Out := movMemToAcc (s.addrDirect a) d s

/-- `mov direct, ABLH` (R344). -/
def movDirectToPart (a : BitVec 8) (q : AccPart) (s : State) : Out :=
  readData s (s.addrDirect a) fun v t =>
    .next (t.setAccFlags (AccPart.part q).1 (if (AccPart.part q).2 then accHigh v else accLow v))

/-- `mov direct, aXh, eu` (R345): the extension nibble is kept. -/
def movDirectToHighEu (a : BitVec 8) (d : AX) (s : State) : Out :=
  readData s (s.addrDirect a) fun v t =>
    .next (t.setAccFlags d.ab ((t.accs.get d.ab).extractLsb' 32 4 ++ (v ++ (0 : BitVec 16))))

/-- `mov direct, sv` (R346). -/
def movDirectToSv (a : BitVec 8) (s : State) : Out := readData s (s.addrDirect a) fun v t => .next { t with sv := v }

/-- `mov sv, direct` (R347). -/
def movSvToDirect (a : BitVec 8) (s : State) : Out := writeData s (s.addrDirect a) s.sv .next

/-- `mov aXl` into data memory (R349, R366, R368). -/
def movLowToMem (d : AX) (a : Word) (s : State) : Out :=
  readPart s d.ab false fun v t => writeData t a v .next

/-- `mov #short, aXl` (R360). -/
def movShortToLow (v : BitVec 8) (d : AX) (s : State) : Out := .next (s.setAccFlags d.ab (accLow (v.setWidth 16)))

/-- `mov #short, aXh` (R361). -/
def movShortToHigh (v : BitVec 8) (d : AX) (s : State) : Out := .next (s.setAccFlags d.ab (accHigh (v.signExtend 16)))

/-- `mov REG, icr` (R350, R44). -/
def movRegToIcr (r : Reg) (s : State) : Out :=
  readMovSource s r fun v t => .next { t with icr := t.icr.write v }

/-- `mov #imm5, icr` (R351, R44). -/
def movImmToIcr (v : BitVec 5) (s : State) : Out := .next { s with icr := s.icr.write (v.setWidth 16) }

/-- `mov icr, ab` (R355): bits 15..8 are free (log 6). -/
def movIcrToAcc (d : AB) (s : State) : Out :=
  .next ({ s with freeCtr := s.freeCtr + 1 }.setAccFlags d (accFull (Config.freeIcr s.freeCtr ++ s.icr.low)))

/-- `mov ABl, x` (R352). -/
def movLowToX (i : AB) (s : State) : Out :=
  readPart s i false fun v t => .next { t with mul := { t.mul with x := v } }

/-- `mov ABl, dvm` (R357). -/
def movLowToDvm (i : AB) (s : State) : Out := readPart s i false fun v t => .next { t with dvm := v }

/-- `movp (aXl), REG` (R370). -/
def movProgToReg (d : AX) (r : Reg) (s : State) : Out :=
  readProg s (low16 (s.accs.get d.ab)) fun v t => writeMovDest t r v

/-- `movp (rN), (rI)` (R371). With one register in both fields the source defines no result for that register: the
word is moved and the register is free (log 9). -/
def movProgToData (n : RN) (m : PostMod) (i : RI) (im : PostMod) (s : State) : Out :=
  readProg s (s.ptr n) fun v t =>
    writeData t (s.ptr i.rn) v fun u =>
      if n = i.rn then .next { u.setPtr n (Config.freePointer u.freeCtr) with freeCtr := u.freeCtr + 1 }
      else .next ((u.bump n m).bump i.rn im)

/-- `movd (rI), (rJ)` (R372): not to its own address A or A + 1, where pc is A + 1 (R97). -/
def movDataToProg (i : RI) (im : PostMod) (j : RJ) (jm : PostMod) (s : State) : Out :=
  if s.ptr j.rn = s.pc - 1 ∨ s.ptr j.rn = s.pc then .refused .movdSelf
  else
    readData s (s.ptr i.rn) fun v t =>
      writeProg t (s.ptr j.rn) v fun u => .next ((u.bump i.rn im).bump j.rn jm)

/-- `movr` (R374 to R376): the operand in the high part, 0x8000 added. -/
def movRound (d : AB) (x : Src) (s : State) : Out :=
  readSrc x s fun v t =>
    let o := add36 (highAcc v) 0x8000
    .next { t with accs := t.accs.set d o.r, flags := t.flags.arith o }

/-- `movs` (R378 to R380). -/
def movShift (x : Src) (d : AB) (s : State) : Out := readSrc x s fun v t => shiftBySv (v.signExtend 36) d t

/-- `movsi` (R381): V is cleared in arithmetic mode, L is unchanged. -/
def movShiftImm (n : RNStar) (d : AB) (k : BitVec 5) (s : State) : Out :=
  let o := shift36 ((s.regValue n.reg).signExtend 36) k.toInt s.stat.s
  let f := s.flags.setZMNE o.r
  .next { s with accs := s.accs.set d o.r
                 flags := { f with c := o.c, v := if s.stat.s then f.v else false } }

/-- `push REG` (R385). -/
def pushReg (r : Reg) (s : State) : Out := readMovSource s r fun v t => push t v .next

/-- `push ##long` (R386). -/
def pushWord (v : Word) (s : State) : Out := push s v .next

/-- `pop REG` (R387): the register is written after sp. -/
def popToReg (r : Reg) (s : State) : Out := pop s fun v t => writeMovDest t r v

/-- The accumulators after a `swap` option, and the value that describes the flags (R390). -/
def swapResult (o : SwapOp) (a : Accs) : Accs × Acc :=
  match o with
  | .a0b0 => ({ a with a0 := a.b0, b0 := a.a0 }, a.b0)
  | .a0b1 => ({ a with a0 := a.b1, b1 := a.a0 }, a.b1)
  | .a1b0 => ({ a with a1 := a.b0, b0 := a.a1 }, a.b0)
  | .a1b1 => ({ a with a1 := a.b1, b1 := a.a1 }, a.b1)
  | .a0b0a1b1 => ({ a0 := a.b0, b0 := a.a0, a1 := a.b1, b1 := a.a1 }, a.b0)
  | .a0b1a1b0 => ({ a0 := a.b1, b1 := a.a0, a1 := a.b0, b0 := a.a1 }, a.b1)
  | .a0b0a1 => ({ a with a1 := a.b0, b0 := a.a0 }, a.b0)
  | .a0b1a1 => ({ a with a1 := a.b1, b1 := a.a0 }, a.b1)
  | .a1b0a0 => ({ a with a0 := a.b0, b0 := a.a1 }, a.b0)
  | .a1b1a0 => ({ a with a0 := a.b1, b1 := a.a1 }, a.b1)
  | .b0a0b1 => ({ a with b1 := a.a0, a0 := a.b0 }, a.b0)
  | .b0a1b1 => ({ a with b1 := a.a1, a1 := a.b0 }, a.b0)
  | .b1a0b0 => ({ a with b0 := a.a0, a0 := a.b1 }, a.b1)
  | .b1a1b0 => ({ a with b0 := a.a1, a1 := a.b1 }, a.b1)

/-- `swap` (R390). -/
def swapAccs (o : SwapOp) (s : State) : Out :=
  .next { s with accs := (swapResult o s.accs).1, flags := s.flags.setZMNE (swapResult o s.accs).2 }

/-- `banke` (R392): bit 3 is r0, bit 2 r1, bit 1 r4, bit 0 cfgi. -/
def bankExchange (k : BitVec 4) (s : State) : Out :=
  let p := s.dau
  .next { s with dau := { p with
    r0 := if k.getLsbD 3 then p.r0b else p.r0
    r0b := if k.getLsbD 3 then p.r0 else p.r0b
    r1 := if k.getLsbD 2 then p.r1b else p.r1
    r1b := if k.getLsbD 2 then p.r1 else p.r1b
    r4 := if k.getLsbD 1 then p.r4b else p.r4
    r4b := if k.getLsbD 1 then p.r4 else p.r4b
    cfgi := if k.getLsbD 0 then p.cfgib else p.cfgi
    cfgib := if k.getLsbD 0 then p.cfgi else p.cfgib } }

/-! ### One meaning for each instruction -/

/-- `movr (rN),abXh` (R376). -/
def execMovrIndPart (d : AB) (q : MovrPtr) (m : PostMod) (s : State) : Out := movRound d (.ind q.rn m) s

/-- `mov register,register` (R331). -/
def execMovRegReg (d : Reg) (r : Reg) (s : State) : Out := movRegToReg r d s

/-- `mov ab,AB` (R332). -/
def execMovAccAcc (src : AB) (d : AB) (s : State) : Out := movAcc src d s

/-- `mov register,bX` (R336). -/
def execMovRegB (b : BX) (r : Reg) (s : State) : Out := movRegToAcc r b.ab s

/-- `mov register,mixp` (R337). -/
def execMovRegMixp (r : Reg) (s : State) : Out := movRegToMixp r s

/-- `mov register,(rN)` (R333). -/
def execMovRegInd (r : Reg) (n : RN) (m : PostMod) (s : State) : Out := movRegToInd r n m s

/-- `mov mixp,register` (R338). -/
def execMovMixpReg (r : Reg) (s : State) : Out := movToReg s.dau.mixp r s

/-- `mov icr,AB` (R355). -/
def execMovIcrAcc (d : AB) (s : State) : Out := movIcrToAcc d s

/-- `mov x,AB` (R356). -/
def execMovXAcc (d : AB) (s : State) : Out := movToAcc s.mul.x d s

/-- `mov (rN),register` (R334). -/
def execMovIndReg (r : Reg) (n : RN) (m : PostMod) (s : State) : Out := movIndToReg n m r s

/-- `mov (rN),bX` (R335). -/
def execMovIndB (b : BX) (n : RN) (m : PostMod) (s : State) : Out := movIndToAcc n m b.ab s

/-- `mov (sp),register` (R339). -/
def execMovSpReg (r : Reg) (s : State) : Out := movTopToReg r s

/-- `mov rN*,direct` (R340). -/
def execMovRnDirect (n : RNStar) (a : BitVec 8) (s : State) : Out := movRnToDirect n a s

/-- `mov ABLH,direct` (R341). -/
def execMovPartDirect (q : AccPart) (a : BitVec 8) (s : State) : Out := movPartToDirect q a s

/-- `mov direct,rN*` (R342). -/
def execMovDirectRn (n : RNStar) (a : BitVec 8) (s : State) : Out := movDirectToReg a n.reg s

/-- `mov direct,AB` (R343). -/
def execMovDirectAcc (d : AB) (a : BitVec 8) (s : State) : Out := movDirectToAcc a d s

/-- `mov direct,ABLH` (R344). -/
def execMovDirectPart (q : AccPart) (a : BitVec 8) (s : State) : Out := movDirectToPart a q s

/-- `mov direct,aXh,eu` (R345). -/
def execMovDirectHighEu (d : AX) (a : BitVec 8) (s : State) : Out := movDirectToHighEu a d s

/-- `mov direct,sv` (R346). -/
def execMovDirectSv (a : BitVec 8) (s : State) : Out := movDirectToSv a s

/-- `mov sv,direct` (R347). -/
def execMovSvDirect (a : BitVec 8) (s : State) : Out := movSvToDirect a s

/-- `mov [##direct],aX` (R348). -/
def execMovDirLongA (d : AX) (v : Word) (s : State) : Out := movMemToAcc v d.ab s

/-- `mov aXl,[##direct]` (R349). -/
def execMovLowDirLong (d : AX) (v : Word) (s : State) : Out := movLowToMem d v s

/-- `mov ##long,register` (R358). -/
def execMovLongReg (r : Reg) (v : Word) (s : State) : Out := movToReg v r s

/-- `mov ##long,bX` (R359). -/
def execMovLongB (b : BX) (v : Word) (s : State) : Out := movToAcc v b.ab s

/-- `mov #short,aXl` (R360). -/
def execMovShortLow (d : AX) (v : BitVec 8) (s : State) : Out := movShortToLow v d s

/-- `mov #short,aXh` (R361). -/
def execMovShortHigh (d : AX) (v : BitVec 8) (s : State) : Out := movShortToHigh v d s

/-- `mov #short,rN*` (R362). -/
def execMovShortRn (n : RNStar) (v : BitVec 8) (s : State) : Out := movToReg (v.signExtend 16) n.reg s

/-- `mov #short,extX` (R363). -/
def execMovShortExt (e : ExtReg) (v : BitVec 8) (s : State) : Out := movToReg (v.signExtend 16) e.reg s

/-- `mov #short,sv` (R364). -/
def execMovShortSv (v : BitVec 8) (s : State) : Out := movToReg (v.signExtend 16) .sv s

/-- `mov register,icr` (R350). -/
def execMovRegIcr (r : Reg) (s : State) : Out := movRegToIcr r s

/-- `mov #imm5,icr` (R351). -/
def execMovImmIcr (v : BitVec 5) (s : State) : Out := movImmToIcr v s

/-- `mov (rb+#offset7),aX` (R365). -/
def execMovIdx7A (d : AX) (o : BitVec 7) (s : State) : Out := movMemToAcc (s.addrIdx7 o) d.ab s

/-- `mov aXl,(rb+#offset7)` (R366). -/
def execMovLowIdx7 (d : AX) (o : BitVec 7) (s : State) : Out := movLowToMem d (s.addrIdx7 o) s

/-- `mov (rb+##offset),aX` (R367). -/
def execMovIdx16A (d : AX) (v : Word) (s : State) : Out := movMemToAcc (s.addrIdx16 v) d.ab s

/-- `mov aXl,(rb+##offset)` (R368). -/
def execMovLowIdx16 (d : AX) (v : Word) (s : State) : Out := movLowToMem d (s.addrIdx16 v) s

/-- `movp (aXl),register` (R370). -/
def execMovpLowReg (d : AX) (r : Reg) (s : State) : Out := movProgToReg d r s

/-- `movp (rN),(rI)` (R371). -/
def execMovpIndInd (i : RI) (im : PostMod) (n : RN) (m : PostMod) (s : State) : Out := movProgToData n m i im s

/-- `movs register,AB` (R378). -/
def execMovsReg (d : AB) (r : Reg) (s : State) : Out := movShift (.reg r) d s

/-- `movs (rN),AB` (R379). -/
def execMovsInd (d : AB) (n : RN) (m : PostMod) (s : State) : Out := movShift (.ind n m) d s

/-- `movs direct,AB` (R380). -/
def execMovsDirect (d : AB) (a : BitVec 8) (s : State) : Out := movShift (.direct a) d s

/-- `movsi rN*,AB` (R381). -/
def execMovsi (n : RNStar) (d : AB) (k : BitVec 5) (s : State) : Out := movShiftImm n d k s

/-- `movr register,aX` (R374). -/
def execMovrReg (d : AX) (r : Reg) (s : State) : Out := movRound d.ab (.reg r) s

/-- `movr (rN),aX` (R375). -/
def execMovrInd (d : AX) (n : RN) (m : PostMod) (s : State) : Out := movRound d.ab (.ind n m) s

/-- `push register` (R385). -/
def execPushReg (r : Reg) (s : State) : Out := pushReg r s

/-- `push ##long` (R386). -/
def execPushLong (v : Word) (s : State) : Out := pushWord v s

/-- `pop register` (R387). -/
def execPopReg (r : Reg) (s : State) : Out := popToReg r s

/-- `swap` (R390). -/
def execSwap (o : SwapOp) (s : State) : Out := swapAccs o s

/-- `banke` (R392). -/
def execBanke (k : BitVec 4) (s : State) : Out := bankExchange k s

/-- `movd (rI),(rJ)` (R372). -/
def execMovd (i : RI) (im : PostMod) (j : RJ) (jm : PostMod) (s : State) : Out := movDataToProg i im j jm s

/-- `mov ABl,dvm` with b0 (R357). -/
def execMovB0lDvm (s : State) : Out := movLowToDvm (.b0 : AB) s

/-- `mov ABl,dvm` with b1 (R357). -/
def execMovB1lDvm (s : State) : Out := movLowToDvm (.b1 : AB) s

/-- `mov ABl,dvm` with a0 (R357). -/
def execMovA0lDvm (s : State) : Out := movLowToDvm (.a0 : AB) s

/-- `mov ABl,dvm` with a1 (R357). -/
def execMovA1lDvm (s : State) : Out := movLowToDvm (.a1 : AB) s

/-- `mov ABl,x` with b0 (R352). -/
def execMovB0lX (s : State) : Out := movLowToX (.b0 : AB) s

/-- `mov ABl,x` with b1 (R352). -/
def execMovB1lX (s : State) : Out := movLowToX (.b1 : AB) s

/-- `mov ABl,x` with a0 (R352). -/
def execMovA0lX (s : State) : Out := movLowToX (.a0 : AB) s

/-- `mov ABl,x` with a1 (R352). -/
def execMovA1lX (s : State) : Out := movLowToX (.a1 : AB) s

/-- `mov repc,AB` with b0 (R353). -/
def execMovRepcB0 (s : State) : Out := movToAcc s.loops.repc (.b0 : AB) s

/-- `mov repc,AB` with b1 (R353). -/
def execMovRepcB1 (s : State) : Out := movToAcc s.loops.repc (.b1 : AB) s

/-- `mov repc,AB` with a0 (R353). -/
def execMovRepcA0 (s : State) : Out := movToAcc s.loops.repc (.a0 : AB) s

/-- `mov repc,AB` with a1 (R353). -/
def execMovRepcA1 (s : State) : Out := movToAcc s.loops.repc (.a1 : AB) s

/-- `mov dvm,AB` with b0 (R354). -/
def execMovDvmB0 (s : State) : Out := movToAcc s.dvm (.b0 : AB) s

/-- `mov dvm,AB` with b1 (R354). -/
def execMovDvmB1 (s : State) : Out := movToAcc s.dvm (.b1 : AB) s

/-- `mov dvm,AB` with a0 (R354). -/
def execMovDvmA0 (s : State) : Out := movToAcc s.dvm (.a0 : AB) s

/-- `mov dvm,AB` with a1 (R354). -/
def execMovDvmA1 (s : State) : Out := movToAcc s.dvm (.a1 : AB) s

end Sys2Proof.Machine
end

