-- ==== Sys2Proof/Machine/Mul.lean ====
section
/-! DEFINITION. The multiply instructions (41_multiply.md): the shared operations, then one meaning for each
constructor. -/

namespace Sys2Proof.Machine

/-- How the previous product enters the accumulator (R264, R268, R270). -/
inductive AccMode where
  | add | addAligned | sub
  deriving DecidableEq, Repr

/-- The accumulation of the previous product p, already shifted (R264 to R270). -/
def accumulate (mode : AccMode) (x p : Acc) : AluOut :=
  match mode with
  | .add => add36 x p
  | .addAligned => add36 x (p.sshiftRight 16)
  | .sub => sub36 x p

/-- A multiply without accumulation (R262, R263): no accumulator, no flag. -/
def mulOnly (ym xm : Sign) (src : MulSrc) (s : State) : Out :=
  readMul src s fun y x t => .next { t with mul := multiply ym xm y x }

/-- A multiply that accumulates the previous product first (R261, R264 to R270). -/
def mulAcc (mode : AccMode) (ym xm : Sign) (d : AX) (src : MulSrc) (s : State) : Out :=
  readMul src s fun y x t =>
    let o := accumulate mode (s.accs.get d.ab) (shiftedP s.mul s.stat.ps)
    .next { t with accs := t.accs.set d.ab o.r, flags := t.flags.arith o, mul := multiply ym xm y x }

/-- `mpyi` (R271). -/
def mulShort (v : BitVec 8) (s : State) : Out :=
  .next { s with mul := multiply .signed .signed s.mul.y (v.signExtend 16) }

/-- `sqr` (R272). -/
def squareOnly (src : Src) (s : State) : Out :=
  readSrc src s fun v t => .next { t with mul := multiply .signed .signed v v }

/-- `sqra` (R273). -/
def squareAcc (d : AX) (src : Src) (s : State) : Out :=
  readSrc src s fun v t =>
    let o := accumulate .add (s.accs.get d.ab) (shiftedP s.mul s.stat.ps)
    .next { t with accs := t.accs.set d.ab o.r, flags := t.flags.arith o, mul := multiply .signed .signed v v }

/-! ### One meaning for each instruction -/

/-- `msu y, direct address, aX` (R270). -/
def execMsuYDirect (d : AX) (a : BitVec 8) (s : State) : Out := mulAcc .sub .signed .signed d (.yDirect a) s

/-- `msu y, (rN), aX` (R270). -/
def execMsuYInd (d : AX) (n : RN) (m : PostMod) (s : State) : Out := mulAcc .sub .signed .signed d (.yInd n m) s

/-- `msu y, REG, aX` (R270). -/
def execMsuYReg (d : AX) (r : Reg) (s : State) : Out := mulAcc .sub .signed .signed d (.yReg r) s

/-- `sqr direct address` (R272). -/
def execSqrDirect (a : BitVec 8) (s : State) : Out := squareOnly (.direct a) s

/-- `sqr (rN)` (R272). -/
def execSqrInd (n : RN) (m : PostMod) (s : State) : Out := squareOnly (.ind n m) s

/-- `sqr REG` (R272). -/
def execSqrReg (r : Reg) (s : State) : Out := squareOnly (.reg r) s

/-- `sqra direct address, aX` (R273). -/
def execSqraDirect (d : AX) (a : BitVec 8) (s : State) : Out := squareAcc d (.direct a) s

/-- `sqra (rN), aX` (R273). -/
def execSqraInd (d : AX) (n : RN) (m : PostMod) (s : State) : Out := squareAcc d (.ind n m) s

/-- `sqra REG, aX` (R273). -/
def execSqraReg (d : AX) (r : Reg) (s : State) : Out := squareAcc d (.reg r) s

/-- `mpy y, (rN)` (R262). -/
def execMpyYInd (n : RN) (m : PostMod) (s : State) : Out := mulOnly .signed .signed (.yInd n m) s

/-- `mpy y, REG` (R262). -/
def execMpyYReg (r : Reg) (s : State) : Out := mulOnly .signed .signed (.yReg r) s

/-- `mpy (rJ), (rI)` (R262). -/
def execMpyDual (j : RJ) (jm : PostMod) (i : RI) (im : PostMod) (s : State) : Out :=
  mulOnly .signed .signed (.dual j jm i im) s

/-- `mpy (rN), ##long immediate` (R262). -/
def execMpyLong (n : RN) (m : PostMod) (v : Word) (s : State) : Out := mulOnly .signed .signed (.indLong n m v) s

/-- `mpysu y, (rN)` (R263). -/
def execMpysuYInd (n : RN) (m : PostMod) (s : State) : Out := mulOnly .signed .unsigned (.yInd n m) s

/-- `mpysu y, REG` (R263). -/
def execMpysuYReg (r : Reg) (s : State) : Out := mulOnly .signed .unsigned (.yReg r) s

/-- `mpysu (rJ), (rI)` (R263). -/
def execMpysuDual (j : RJ) (jm : PostMod) (i : RI) (im : PostMod) (s : State) : Out :=
  mulOnly .signed .unsigned (.dual j jm i im) s

/-- `mpysu (rN), ##long immediate` (R263). -/
def execMpysuLong (n : RN) (m : PostMod) (v : Word) (s : State) : Out := mulOnly .signed .unsigned (.indLong n m v) s

/-- `mac y, (rN), aX` (R264). -/
def execMacYInd (d : AX) (n : RN) (m : PostMod) (s : State) : Out := mulAcc .add .signed .signed d (.yInd n m) s

/-- `mac y, REG, aX` (R264). -/
def execMacYReg (d : AX) (r : Reg) (s : State) : Out := mulAcc .add .signed .signed d (.yReg r) s

/-- `mac (rJ), (rI), aX` (R264). -/
def execMacDual (d : AX) (j : RJ) (jm : PostMod) (i : RI) (im : PostMod) (s : State) : Out :=
  mulAcc .add .signed .signed d (.dual j jm i im) s

/-- `mac (rN), ##long immediate, aX` (R264). -/
def execMacLong (d : AX) (n : RN) (m : PostMod) (v : Word) (s : State) : Out :=
  mulAcc .add .signed .signed d (.indLong n m v) s

/-- `macus y, (rN), aX` (R266). -/
def execMacusYInd (d : AX) (n : RN) (m : PostMod) (s : State) : Out := mulAcc .add .unsigned .signed d (.yInd n m) s

/-- `macus y, REG, aX` (R266). -/
def execMacusYReg (d : AX) (r : Reg) (s : State) : Out := mulAcc .add .unsigned .signed d (.yReg r) s

/-- `macus (rJ), (rI), aX` (R266). -/
def execMacusDual (d : AX) (j : RJ) (jm : PostMod) (i : RI) (im : PostMod) (s : State) : Out :=
  mulAcc .add .unsigned .signed d (.dual j jm i im) s

/-- `macus (rN), ##long immediate, aX` (R266). -/
def execMacusLong (d : AX) (n : RN) (m : PostMod) (v : Word) (s : State) : Out :=
  mulAcc .add .unsigned .signed d (.indLong n m v) s

/-- `maa y, (rN), aX` (R268). -/
def execMaaYInd (d : AX) (n : RN) (m : PostMod) (s : State) : Out :=
  mulAcc .addAligned .signed .signed d (.yInd n m) s

/-- `maa y, REG, aX` (R268). -/
def execMaaYReg (d : AX) (r : Reg) (s : State) : Out := mulAcc .addAligned .signed .signed d (.yReg r) s

/-- `maa (rJ), (rI), aX` (R268). -/
def execMaaDual (d : AX) (j : RJ) (jm : PostMod) (i : RI) (im : PostMod) (s : State) : Out :=
  mulAcc .addAligned .signed .signed d (.dual j jm i im) s

/-- `maa (rN), ##long immediate, aX` (R268). -/
def execMaaLong (d : AX) (n : RN) (m : PostMod) (v : Word) (s : State) : Out :=
  mulAcc .addAligned .signed .signed d (.indLong n m v) s

/-- `macuu y, (rN), aX` (R267). -/
def execMacuuYInd (d : AX) (n : RN) (m : PostMod) (s : State) : Out := mulAcc .add .unsigned .unsigned d (.yInd n m) s

/-- `macuu y, REG, aX` (R267). -/
def execMacuuYReg (d : AX) (r : Reg) (s : State) : Out := mulAcc .add .unsigned .unsigned d (.yReg r) s

/-- `macuu (rJ), (rI), aX` (R267). -/
def execMacuuDual (d : AX) (j : RJ) (jm : PostMod) (i : RI) (im : PostMod) (s : State) : Out :=
  mulAcc .add .unsigned .unsigned d (.dual j jm i im) s

/-- `macuu (rN), ##long immediate, aX` (R267). -/
def execMacuuLong (d : AX) (n : RN) (m : PostMod) (v : Word) (s : State) : Out :=
  mulAcc .add .unsigned .unsigned d (.indLong n m v) s

/-- `macsu y, (rN), aX` (R265). -/
def execMacsuYInd (d : AX) (n : RN) (m : PostMod) (s : State) : Out := mulAcc .add .signed .unsigned d (.yInd n m) s

/-- `macsu y, REG, aX` (R265). -/
def execMacsuYReg (d : AX) (r : Reg) (s : State) : Out := mulAcc .add .signed .unsigned d (.yReg r) s

/-- `macsu (rJ), (rI), aX` (R265). -/
def execMacsuDual (d : AX) (j : RJ) (jm : PostMod) (i : RI) (im : PostMod) (s : State) : Out :=
  mulAcc .add .signed .unsigned d (.dual j jm i im) s

/-- `macsu (rN), ##long immediate, aX` (R265). -/
def execMacsuLong (d : AX) (n : RN) (m : PostMod) (v : Word) (s : State) : Out :=
  mulAcc .add .signed .unsigned d (.indLong n m v) s

/-- `maasu y, (rN), aX` (R269). -/
def execMaasuYInd (d : AX) (n : RN) (m : PostMod) (s : State) : Out :=
  mulAcc .addAligned .signed .unsigned d (.yInd n m) s

/-- `maasu y, REG, aX` (R269). -/
def execMaasuYReg (d : AX) (r : Reg) (s : State) : Out := mulAcc .addAligned .signed .unsigned d (.yReg r) s

/-- `maasu (rJ), (rI), aX` (R269). -/
def execMaasuDual (d : AX) (j : RJ) (jm : PostMod) (i : RI) (im : PostMod) (s : State) : Out :=
  mulAcc .addAligned .signed .unsigned d (.dual j jm i im) s

/-- `maasu (rN), ##long immediate, aX` (R269). -/
def execMaasuLong (d : AX) (n : RN) (m : PostMod) (v : Word) (s : State) : Out :=
  mulAcc .addAligned .signed .unsigned d (.indLong n m v) s

/-- `mpy y, direct address` (R262). -/
def execMpyYDirect (a : BitVec 8) (s : State) : Out := mulOnly .signed .signed (.yDirect a) s

/-- `mac y, direct address, aX` (R264). -/
def execMacYDirect (d : AX) (a : BitVec 8) (s : State) : Out := mulAcc .add .signed .signed d (.yDirect a) s

/-- `maa y, direct address, aX` (R268). -/
def execMaaYDirect (d : AX) (a : BitVec 8) (s : State) : Out := mulAcc .addAligned .signed .signed d (.yDirect a) s

/-- `macsu y, direct address, aX` (R265). -/
def execMacsuYDirect (d : AX) (a : BitVec 8) (s : State) : Out := mulAcc .add .signed .unsigned d (.yDirect a) s

/-- `mpyi` (R271). -/
def execMpyi (v : BitVec 8) (s : State) : Out := mulShort v s

/-- `msu (rN),##long` (R270). -/
def execMsuLong (d : AX) (n : RN) (m : PostMod) (v : Word) (s : State) : Out :=
  mulAcc .sub .signed .signed d (.indLong n m v) s

/-- `msu (rJ),(rI)` (R270). -/
def execMsuDual (d : AX) (j : RJ) (jm : PostMod) (i : RI) (im : PostMod) (s : State) : Out :=
  mulAcc .sub .signed .signed d (.dual j jm i im) s

end Sys2Proof.Machine
end

