-- ==== Sys2Proof/Machine/Dispatch.lean ====
section
/-! DEFINITION. One arm for each constructor of `Instr`: one direct call of its meaning. -/

namespace Sys2Proof.Machine

/-- The meaning of an instruction in a state whose pc is the address of the next one (R35). -/
def exec (i : Instr) (s : State) : Host.Outcome State Fault Refusal :=
  match i with
  | .movrIndPart d q m => Sys2Proof.Machine.execMovrIndPart d q m s
  | .orDirect d a => Sys2Proof.Machine.execOrDirect d a s
  | .orInd d n m => Sys2Proof.Machine.execOrInd d n m s
  | .orReg d r => Sys2Proof.Machine.execOrReg d r s
  | .andDirect d a => Sys2Proof.Machine.execAndDirect d a s
  | .andInd d n m => Sys2Proof.Machine.execAndInd d n m s
  | .andReg d r => Sys2Proof.Machine.execAndReg d r s
  | .xorDirect d a => Sys2Proof.Machine.execXorDirect d a s
  | .xorInd d n m => Sys2Proof.Machine.execXorInd d n m s
  | .xorReg d r => Sys2Proof.Machine.execXorReg d r s
  | .addDirect d a => Sys2Proof.Machine.execAddDirect d a s
  | .addInd d n m => Sys2Proof.Machine.execAddInd d n m s
  | .addReg d r => Sys2Proof.Machine.execAddReg d r s
  | .tst0Direct d a => Sys2Proof.Machine.execTst0Direct d a s
  | .tst0Ind d n m => Sys2Proof.Machine.execTst0Ind d n m s
  | .tst0Reg d r => Sys2Proof.Machine.execTst0Reg d r s
  | .tst1Direct d a => Sys2Proof.Machine.execTst1Direct d a s
  | .tst1Ind d n m => Sys2Proof.Machine.execTst1Ind d n m s
  | .tst1Reg d r => Sys2Proof.Machine.execTst1Reg d r s
  | .cmpDirect d a => Sys2Proof.Machine.execCmpDirect d a s
  | .cmpInd d n m => Sys2Proof.Machine.execCmpInd d n m s
  | .cmpReg d r => Sys2Proof.Machine.execCmpReg d r s
  | .subDirect d a => Sys2Proof.Machine.execSubDirect d a s
  | .subInd d n m => Sys2Proof.Machine.execSubInd d n m s
  | .subReg d r => Sys2Proof.Machine.execSubReg d r s
  | .msuYDirect d a => Sys2Proof.Machine.execMsuYDirect d a s
  | .msuYInd d n m => Sys2Proof.Machine.execMsuYInd d n m s
  | .msuYReg d r => Sys2Proof.Machine.execMsuYReg d r s
  | .addhDirect d a => Sys2Proof.Machine.execAddhDirect d a s
  | .addhInd d n m => Sys2Proof.Machine.execAddhInd d n m s
  | .addhReg d r => Sys2Proof.Machine.execAddhReg d r s
  | .addlDirect d a => Sys2Proof.Machine.execAddlDirect d a s
  | .addlInd d n m => Sys2Proof.Machine.execAddlInd d n m s
  | .addlReg d r => Sys2Proof.Machine.execAddlReg d r s
  | .subhDirect d a => Sys2Proof.Machine.execSubhDirect d a s
  | .subhInd d n m => Sys2Proof.Machine.execSubhInd d n m s
  | .subhReg d r => Sys2Proof.Machine.execSubhReg d r s
  | .sublDirect d a => Sys2Proof.Machine.execSublDirect d a s
  | .sublInd d n m => Sys2Proof.Machine.execSublInd d n m s
  | .sublReg d r => Sys2Proof.Machine.execSublReg d r s
  | .sqrDirect a => Sys2Proof.Machine.execSqrDirect a s
  | .sqrInd n m => Sys2Proof.Machine.execSqrInd n m s
  | .sqrReg r => Sys2Proof.Machine.execSqrReg r s
  | .sqraDirect d a => Sys2Proof.Machine.execSqraDirect d a s
  | .sqraInd d n m => Sys2Proof.Machine.execSqraInd d n m s
  | .sqraReg d r => Sys2Proof.Machine.execSqraReg d r s
  | .cmpuDirect d a => Sys2Proof.Machine.execCmpuDirect d a s
  | .cmpuInd d n m => Sys2Proof.Machine.execCmpuInd d n m s
  | .cmpuReg d r => Sys2Proof.Machine.execCmpuReg d r s
  | .orShort d v => Sys2Proof.Machine.execOrShort d v s
  | .orLong d v => Sys2Proof.Machine.execOrLong d v s
  | .orIdx7 d o => Sys2Proof.Machine.execOrIdx7 d o s
  | .orIdx16 d v => Sys2Proof.Machine.execOrIdx16 d v s
  | .orDirLong d v => Sys2Proof.Machine.execOrDirLong d v s
  | .andShort d v => Sys2Proof.Machine.execAndShort d v s
  | .andLong d v => Sys2Proof.Machine.execAndLong d v s
  | .andIdx7 d o => Sys2Proof.Machine.execAndIdx7 d o s
  | .andIdx16 d v => Sys2Proof.Machine.execAndIdx16 d v s
  | .andDirLong d v => Sys2Proof.Machine.execAndDirLong d v s
  | .xorShort d v => Sys2Proof.Machine.execXorShort d v s
  | .xorLong d v => Sys2Proof.Machine.execXorLong d v s
  | .xorIdx7 d o => Sys2Proof.Machine.execXorIdx7 d o s
  | .xorIdx16 d v => Sys2Proof.Machine.execXorIdx16 d v s
  | .xorDirLong d v => Sys2Proof.Machine.execXorDirLong d v s
  | .addShort d v => Sys2Proof.Machine.execAddShort d v s
  | .addLong d v => Sys2Proof.Machine.execAddLong d v s
  | .addIdx7 d o => Sys2Proof.Machine.execAddIdx7 d o s
  | .addIdx16 d v => Sys2Proof.Machine.execAddIdx16 d v s
  | .addDirLong d v => Sys2Proof.Machine.execAddDirLong d v s
  | .cmpShort d v => Sys2Proof.Machine.execCmpShort d v s
  | .cmpLong d v => Sys2Proof.Machine.execCmpLong d v s
  | .cmpIdx7 d o => Sys2Proof.Machine.execCmpIdx7 d o s
  | .cmpIdx16 d v => Sys2Proof.Machine.execCmpIdx16 d v s
  | .cmpDirLong d v => Sys2Proof.Machine.execCmpDirLong d v s
  | .subShort d v => Sys2Proof.Machine.execSubShort d v s
  | .subLong d v => Sys2Proof.Machine.execSubLong d v s
  | .subIdx7 d o => Sys2Proof.Machine.execSubIdx7 d o s
  | .subIdx16 d v => Sys2Proof.Machine.execSubIdx16 d v s
  | .subDirLong d v => Sys2Proof.Machine.execSubDirLong d v s
  | .shrA d c => Sys2Proof.Machine.execShrA d c s
  | .shr4A d c => Sys2Proof.Machine.execShr4A d c s
  | .shlA d c => Sys2Proof.Machine.execShlA d c s
  | .shl4A d c => Sys2Proof.Machine.execShl4A d c s
  | .rorA d c => Sys2Proof.Machine.execRorA d c s
  | .rolA d c => Sys2Proof.Machine.execRolA d c s
  | .clrA d c => Sys2Proof.Machine.execClrA d c s
  | .notA d c => Sys2Proof.Machine.execNotA d c s
  | .negA d c => Sys2Proof.Machine.execNegA d c s
  | .rndA d c => Sys2Proof.Machine.execRndA d c s
  | .pacrA d c => Sys2Proof.Machine.execPacrA d c s
  | .clrrA d c => Sys2Proof.Machine.execClrrA d c s
  | .incA d c => Sys2Proof.Machine.execIncA d c s
  | .decA d c => Sys2Proof.Machine.execDecA d c s
  | .copyA d c => Sys2Proof.Machine.execCopyA d c s
  | .norm d n m => Sys2Proof.Machine.execNorm d n m s
  | .divs d a => Sys2Proof.Machine.execDivs d a s
  | .setInd n m v => Sys2Proof.Machine.execSetInd n m v s
  | .setReg r v => Sys2Proof.Machine.execSetReg r v s
  | .setDirect a v => Sys2Proof.Machine.execSetDirect a v s
  | .rstInd n m v => Sys2Proof.Machine.execRstInd n m v s
  | .rstReg r v => Sys2Proof.Machine.execRstReg r v s
  | .rstDirect a v => Sys2Proof.Machine.execRstDirect a v s
  | .chngInd n m v => Sys2Proof.Machine.execChngInd n m v s
  | .chngReg r v => Sys2Proof.Machine.execChngReg r v s
  | .chngDirect a v => Sys2Proof.Machine.execChngDirect a v s
  | .addvInd n m v => Sys2Proof.Machine.execAddvInd n m v s
  | .addvReg r v => Sys2Proof.Machine.execAddvReg r v s
  | .addvDirect a v => Sys2Proof.Machine.execAddvDirect a v s
  | .tst0LongInd n m v => Sys2Proof.Machine.execTst0LongInd n m v s
  | .tst0LongReg r v => Sys2Proof.Machine.execTst0LongReg r v s
  | .tst0LongDirect a v => Sys2Proof.Machine.execTst0LongDirect a v s
  | .tst1LongInd n m v => Sys2Proof.Machine.execTst1LongInd n m v s
  | .tst1LongReg r v => Sys2Proof.Machine.execTst1LongReg r v s
  | .tst1LongDirect a v => Sys2Proof.Machine.execTst1LongDirect a v s
  | .cmpvInd n m v => Sys2Proof.Machine.execCmpvInd n m v s
  | .cmpvReg r v => Sys2Proof.Machine.execCmpvReg r v s
  | .cmpvDirect a v => Sys2Proof.Machine.execCmpvDirect a v s
  | .subvInd n m v => Sys2Proof.Machine.execSubvInd n m v s
  | .subvReg r v => Sys2Proof.Machine.execSubvReg r v s
  | .subvDirect a v => Sys2Proof.Machine.execSubvDirect a v s
  | .maxd c d m => Sys2Proof.Machine.execMaxd c d m s
  | .max c d m => Sys2Proof.Machine.execMax c d m s
  | .min c d m => Sys2Proof.Machine.execMin c d m s
  | .mpyYInd n m => Sys2Proof.Machine.execMpyYInd n m s
  | .mpyYReg r => Sys2Proof.Machine.execMpyYReg r s
  | .mpyDual j jm k im => Sys2Proof.Machine.execMpyDual j jm k im s
  | .mpyLong n m v => Sys2Proof.Machine.execMpyLong n m v s
  | .mpysuYInd n m => Sys2Proof.Machine.execMpysuYInd n m s
  | .mpysuYReg r => Sys2Proof.Machine.execMpysuYReg r s
  | .mpysuDual j jm k im => Sys2Proof.Machine.execMpysuDual j jm k im s
  | .mpysuLong n m v => Sys2Proof.Machine.execMpysuLong n m v s
  | .macYInd d n m => Sys2Proof.Machine.execMacYInd d n m s
  | .macYReg d r => Sys2Proof.Machine.execMacYReg d r s
  | .macDual d j jm k im => Sys2Proof.Machine.execMacDual d j jm k im s
  | .macLong d n m v => Sys2Proof.Machine.execMacLong d n m v s
  | .macusYInd d n m => Sys2Proof.Machine.execMacusYInd d n m s
  | .macusYReg d r => Sys2Proof.Machine.execMacusYReg d r s
  | .macusDual d j jm k im => Sys2Proof.Machine.execMacusDual d j jm k im s
  | .macusLong d n m v => Sys2Proof.Machine.execMacusLong d n m v s
  | .maaYInd d n m => Sys2Proof.Machine.execMaaYInd d n m s
  | .maaYReg d r => Sys2Proof.Machine.execMaaYReg d r s
  | .maaDual d j jm k im => Sys2Proof.Machine.execMaaDual d j jm k im s
  | .maaLong d n m v => Sys2Proof.Machine.execMaaLong d n m v s
  | .macuuYInd d n m => Sys2Proof.Machine.execMacuuYInd d n m s
  | .macuuYReg d r => Sys2Proof.Machine.execMacuuYReg d r s
  | .macuuDual d j jm k im => Sys2Proof.Machine.execMacuuDual d j jm k im s
  | .macuuLong d n m v => Sys2Proof.Machine.execMacuuLong d n m v s
  | .macsuYInd d n m => Sys2Proof.Machine.execMacsuYInd d n m s
  | .macsuYReg d r => Sys2Proof.Machine.execMacsuYReg d r s
  | .macsuDual d j jm k im => Sys2Proof.Machine.execMacsuDual d j jm k im s
  | .macsuLong d n m v => Sys2Proof.Machine.execMacsuLong d n m v s
  | .maasuYInd d n m => Sys2Proof.Machine.execMaasuYInd d n m s
  | .maasuYReg d r => Sys2Proof.Machine.execMaasuYReg d r s
  | .maasuDual d j jm k im => Sys2Proof.Machine.execMaasuDual d j jm k im s
  | .maasuLong d n m v => Sys2Proof.Machine.execMaasuLong d n m v s
  | .mpyYDirect a => Sys2Proof.Machine.execMpyYDirect a s
  | .macYDirect d a => Sys2Proof.Machine.execMacYDirect d a s
  | .maaYDirect d a => Sys2Proof.Machine.execMaaYDirect d a s
  | .macsuYDirect d a => Sys2Proof.Machine.execMacsuYDirect d a s
  | .mpyi v => Sys2Proof.Machine.execMpyi v s
  | .msuLong d n m v => Sys2Proof.Machine.execMsuLong d n m v s
  | .msuDual d j jm k im => Sys2Proof.Machine.execMsuDual d j jm k im s
  | .tstbInd k n m => Sys2Proof.Machine.execTstbInd k n m s
  | .tstbReg k r => Sys2Proof.Machine.execTstbReg k r s
  | .tstbDirect k a => Sys2Proof.Machine.execTstbDirect k a s
  | .shfc src d c => Sys2Proof.Machine.execShfc src d c s
  | .shfi src d k => Sys2Proof.Machine.execShfi src d k s
  | .shrB d c => Sys2Proof.Machine.execShrB d c s
  | .shr4B d c => Sys2Proof.Machine.execShr4B d c s
  | .shlB d c => Sys2Proof.Machine.execShlB d c s
  | .shl4B d c => Sys2Proof.Machine.execShl4B d c s
  | .rorB d c => Sys2Proof.Machine.execRorB d c s
  | .rolB d c => Sys2Proof.Machine.execRolB d c s
  | .clrB d c => Sys2Proof.Machine.execClrB d c s
  | .expIndA d n m => Sys2Proof.Machine.execExpIndA d n m s
  | .expRegA d r => Sys2Proof.Machine.execExpRegA d r s
  | .expIndSv n m => Sys2Proof.Machine.execExpIndSv n m s
  | .expRegSv r => Sys2Proof.Machine.execExpRegSv r s
  | .movRegReg d r => Sys2Proof.Machine.execMovRegReg d r s
  | .movAccAcc src d => Sys2Proof.Machine.execMovAccAcc src d s
  | .movRegB b r => Sys2Proof.Machine.execMovRegB b r s
  | .movRegMixp r => Sys2Proof.Machine.execMovRegMixp r s
  | .movRegInd r n m => Sys2Proof.Machine.execMovRegInd r n m s
  | .movMixpReg r => Sys2Proof.Machine.execMovMixpReg r s
  | .movIcrAcc d => Sys2Proof.Machine.execMovIcrAcc d s
  | .movXAcc d => Sys2Proof.Machine.execMovXAcc d s
  | .movIndReg r n m => Sys2Proof.Machine.execMovIndReg r n m s
  | .movIndB b n m => Sys2Proof.Machine.execMovIndB b n m s
  | .movSpReg r => Sys2Proof.Machine.execMovSpReg r s
  | .movRnDirect n a => Sys2Proof.Machine.execMovRnDirect n a s
  | .movPartDirect q a => Sys2Proof.Machine.execMovPartDirect q a s
  | .movDirectRn n a => Sys2Proof.Machine.execMovDirectRn n a s
  | .movDirectAcc d a => Sys2Proof.Machine.execMovDirectAcc d a s
  | .movDirectPart q a => Sys2Proof.Machine.execMovDirectPart q a s
  | .movDirectHighEu d a => Sys2Proof.Machine.execMovDirectHighEu d a s
  | .movDirectSv a => Sys2Proof.Machine.execMovDirectSv a s
  | .movSvDirect a => Sys2Proof.Machine.execMovSvDirect a s
  | .movDirLongA d v => Sys2Proof.Machine.execMovDirLongA d v s
  | .movLowDirLong d v => Sys2Proof.Machine.execMovLowDirLong d v s
  | .movLongReg r v => Sys2Proof.Machine.execMovLongReg r v s
  | .movLongB b v => Sys2Proof.Machine.execMovLongB b v s
  | .movShortLow d v => Sys2Proof.Machine.execMovShortLow d v s
  | .movShortHigh d v => Sys2Proof.Machine.execMovShortHigh d v s
  | .movShortRn n v => Sys2Proof.Machine.execMovShortRn n v s
  | .movShortExt e v => Sys2Proof.Machine.execMovShortExt e v s
  | .movShortSv v => Sys2Proof.Machine.execMovShortSv v s
  | .movRegIcr r => Sys2Proof.Machine.execMovRegIcr r s
  | .movImmIcr v => Sys2Proof.Machine.execMovImmIcr v s
  | .movIdx7A d o => Sys2Proof.Machine.execMovIdx7A d o s
  | .movLowIdx7 d o => Sys2Proof.Machine.execMovLowIdx7 d o s
  | .movIdx16A d v => Sys2Proof.Machine.execMovIdx16A d v s
  | .movLowIdx16 d v => Sys2Proof.Machine.execMovLowIdx16 d v s
  | .movpLowReg d r => Sys2Proof.Machine.execMovpLowReg d r s
  | .movpIndInd k im n m => Sys2Proof.Machine.execMovpIndInd k im n m s
  | .movsReg d r => Sys2Proof.Machine.execMovsReg d r s
  | .movsInd d n m => Sys2Proof.Machine.execMovsInd d n m s
  | .movsDirect d a => Sys2Proof.Machine.execMovsDirect d a s
  | .movsi n d k => Sys2Proof.Machine.execMovsi n d k s
  | .movrReg d r => Sys2Proof.Machine.execMovrReg d r s
  | .movrInd d n m => Sys2Proof.Machine.execMovrInd d n m s
  | .pushReg r => Sys2Proof.Machine.execPushReg r s
  | .pushLong v => Sys2Proof.Machine.execPushLong v s
  | .popReg r => Sys2Proof.Machine.execPopReg r s
  | .swap o => Sys2Proof.Machine.execSwap o s
  | .banke k => Sys2Proof.Machine.execBanke k s
  | .movd k im j jm => Sys2Proof.Machine.execMovd k im j jm s
  | .repReg r => Sys2Proof.Machine.execRepReg r s
  | .repShort v => Sys2Proof.Machine.execRepShort v s
  | .bkrepShort v w2 => Sys2Proof.Machine.execBkrepShort v w2 s
  | .bkrepReg r w2 => Sys2Proof.Machine.execBkrepReg r w2 s
  | .br c v => Sys2Proof.Machine.execBr c v s
  | .brr o c => Sys2Proof.Machine.execBrr o c s
  | .call c v => Sys2Proof.Machine.execCall c v s
  | .callr o c => Sys2Proof.Machine.execCallr o c s
  | .ret c => Sys2Proof.Machine.execRet c s
  | .reti ctx c => Sys2Proof.Machine.execReti ctx c s
  | .rets v => Sys2Proof.Machine.execRets v s
  | .modr dmod n m => Sys2Proof.Machine.execModr dmod n m s
  | .loadPage v => Sys2Proof.Machine.execLoadPage v s
  | .loadModi v => Sys2Proof.Machine.execLoadModi v s
  | .loadModj v => Sys2Proof.Machine.execLoadModj v s
  | .loadStepi v => Sys2Proof.Machine.execLoadStepi v s
  | .loadStepj v => Sys2Proof.Machine.execLoadStepj v s
  | .loadPs v => Sys2Proof.Machine.execLoadPs v s
  | .limA0 => Sys2Proof.Machine.execLimA0 s
  | .limA0A1 => Sys2Proof.Machine.execLimA0A1 s
  | .limA1A0 => Sys2Proof.Machine.execLimA1A0 s
  | .limA1 => Sys2Proof.Machine.execLimA1 s
  | .expB0A0 => Sys2Proof.Machine.execExpB0A0 s
  | .expB1A0 => Sys2Proof.Machine.execExpB1A0 s
  | .expB0A1 => Sys2Proof.Machine.execExpB0A1 s
  | .expB1A1 => Sys2Proof.Machine.execExpB1A1 s
  | .expB0Sv => Sys2Proof.Machine.execExpB0Sv s
  | .expB1Sv => Sys2Proof.Machine.execExpB1Sv s
  | .movB0lDvm => Sys2Proof.Machine.execMovB0lDvm s
  | .movB1lDvm => Sys2Proof.Machine.execMovB1lDvm s
  | .movA0lDvm => Sys2Proof.Machine.execMovA0lDvm s
  | .movA1lDvm => Sys2Proof.Machine.execMovA1lDvm s
  | .movB0lX => Sys2Proof.Machine.execMovB0lX s
  | .movB1lX => Sys2Proof.Machine.execMovB1lX s
  | .movA0lX => Sys2Proof.Machine.execMovA0lX s
  | .movA1lX => Sys2Proof.Machine.execMovA1lX s
  | .movRepcB0 => Sys2Proof.Machine.execMovRepcB0 s
  | .movRepcB1 => Sys2Proof.Machine.execMovRepcB1 s
  | .movRepcA0 => Sys2Proof.Machine.execMovRepcA0 s
  | .movRepcA1 => Sys2Proof.Machine.execMovRepcA1 s
  | .movDvmB0 => Sys2Proof.Machine.execMovDvmB0 s
  | .movDvmB1 => Sys2Proof.Machine.execMovDvmB1 s
  | .movDvmA0 => Sys2Proof.Machine.execMovDvmA0 s
  | .movDvmA1 => Sys2Proof.Machine.execMovDvmA1 s
  | .breakLoop => Sys2Proof.Machine.execBreakLoop s
  | .callaA0 => Sys2Proof.Machine.execCallaA0 s
  | .callaA1 => Sys2Proof.Machine.execCallaA1 s
  | .retd => Sys2Proof.Machine.execRetd s
  | .retid => Sys2Proof.Machine.execRetid s
  | .cntxS => Sys2Proof.Machine.execCntxS s
  | .cntxR => Sys2Proof.Machine.execCntxR s
  | .nop => Sys2Proof.Machine.execNop s
  | .eint => Sys2Proof.Machine.execEint s
  | .dint => Sys2Proof.Machine.execDint s
  | .trap => Sys2Proof.Machine.execTrap s

end Sys2Proof.Machine
end

