-- ==== Sys2Proof/WellFormed.lean ====
section
/-! DEFINITION. Which operands an instruction accepts: the exclusions of 30_encoding.md R159 and of the instruction
rules it collects. The decoder refuses a word whose instruction is not well formed (R158). -/

namespace Sys2Proof

/-- The operand exclusions that the fields could express (R159 and the rule of each instruction). -/
def Instr.wellFormed : Instr → Bool
  | .orReg d r => r != d.reg
  | .andReg d r => r != d.reg
  | .xorReg d r => r != d.reg
  | .addReg d r => r != d.reg
  | .tst0Reg _ r => r.isBitField
  | .tst1Reg _ r => r.isBitField
  | .cmpReg d r => r != d.reg
  | .subReg d r => r != d.reg
  | .msuYReg _ r => r.is16
  | .addhReg _ r => r.is16
  | .addlReg _ r => r.is16
  | .subhReg _ r => r.is16
  | .sublReg _ r => r.is16
  | .sqrReg r => r.is16
  | .sqraReg _ r => r.is16
  | .cmpuReg _ r => r.is16
  | .setReg r _ => r.isBitField
  | .rstReg r _ => r.isBitField
  | .chngReg r _ => r.isBitField
  | .addvReg r _ => r.isBitField
  | .tst0LongReg r _ => r.isBitField
  | .tst1LongReg r _ => r.isBitField
  | .cmpvReg r _ => r.isBitField
  | .subvReg r _ => r.isBitField
  | .mpyYReg r => r.is16
  | .mpysuYReg r => r.is16
  | .macYReg _ r => r.is16
  | .macusYReg _ r => r.is16
  | .maaYReg _ r => r.is16
  | .macuuYReg _ r => r.is16
  | .macsuYReg _ r => r.is16
  | .maasuYReg _ r => r.is16
  | .tstbReg _ r => r.isBitField
  | .expRegA _ r => r.isExpSource
  | .expRegSv r => r.isExpSource
  | .movRegReg d r => r != d && r != .a0 && r != .a1 && (r != .p || d == .a0 || d == .a1)
  | .movRegB _ r => r.is16
  | .movRegMixp r => r.is16
  | .movRegInd r n m => r.is16 && (r != n.reg || m == .none)
  | .movIndReg r n m => r != n.reg || m == .none
  | .movRegIcr r => r.is16
  | .movsReg _ r => r.is16
  | .movrReg _ r => r.is16
  | .pushReg r => r.is16
  | .repReg r => r.is16
  | .bkrepReg r _ => r.is16
  | .movrIndPart _ _ _ | .orDirect _ _ | .orInd _ _ _ | .andDirect _ _
  | .andInd _ _ _ | .xorDirect _ _ | .xorInd _ _ _ | .addDirect _ _
  | .addInd _ _ _ | .tst0Direct _ _ | .tst0Ind _ _ _ | .tst1Direct _ _
  | .tst1Ind _ _ _ | .cmpDirect _ _ | .cmpInd _ _ _ | .subDirect _ _
  | .subInd _ _ _ | .msuYDirect _ _ | .msuYInd _ _ _ | .addhDirect _ _
  | .addhInd _ _ _ | .addlDirect _ _ | .addlInd _ _ _ | .subhDirect _ _
  | .subhInd _ _ _ | .sublDirect _ _ | .sublInd _ _ _ | .sqrDirect _
  | .sqrInd _ _ | .sqraDirect _ _ | .sqraInd _ _ _ | .cmpuDirect _ _
  | .cmpuInd _ _ _ | .orShort _ _ | .orLong _ _ | .orIdx7 _ _
  | .orIdx16 _ _ | .orDirLong _ _ | .andShort _ _ | .andLong _ _
  | .andIdx7 _ _ | .andIdx16 _ _ | .andDirLong _ _ | .xorShort _ _
  | .xorLong _ _ | .xorIdx7 _ _ | .xorIdx16 _ _ | .xorDirLong _ _
  | .addShort _ _ | .addLong _ _ | .addIdx7 _ _ | .addIdx16 _ _
  | .addDirLong _ _ | .cmpShort _ _ | .cmpLong _ _ | .cmpIdx7 _ _
  | .cmpIdx16 _ _ | .cmpDirLong _ _ | .subShort _ _ | .subLong _ _
  | .subIdx7 _ _ | .subIdx16 _ _ | .subDirLong _ _ | .shrA _ _
  | .shr4A _ _ | .shlA _ _ | .shl4A _ _ | .rorA _ _
  | .rolA _ _ | .clrA _ _ | .notA _ _ | .negA _ _
  | .rndA _ _ | .pacrA _ _ | .clrrA _ _ | .incA _ _
  | .decA _ _ | .copyA _ _ | .norm _ _ _ | .divs _ _
  | .setInd _ _ _ | .setDirect _ _ | .rstInd _ _ _ | .rstDirect _ _
  | .chngInd _ _ _ | .chngDirect _ _ | .addvInd _ _ _ | .addvDirect _ _
  | .tst0LongInd _ _ _ | .tst0LongDirect _ _ | .tst1LongInd _ _ _ | .tst1LongDirect _ _
  | .cmpvInd _ _ _ | .cmpvDirect _ _ | .subvInd _ _ _ | .subvDirect _ _
  | .maxd _ _ _ | .max _ _ _ | .min _ _ _ | .mpyYInd _ _
  | .mpyDual _ _ _ _ | .mpyLong _ _ _ | .mpysuYInd _ _ | .mpysuDual _ _ _ _
  | .mpysuLong _ _ _ | .macYInd _ _ _ | .macDual _ _ _ _ _ | .macLong _ _ _ _
  | .macusYInd _ _ _ | .macusDual _ _ _ _ _ | .macusLong _ _ _ _ | .maaYInd _ _ _
  | .maaDual _ _ _ _ _ | .maaLong _ _ _ _ | .macuuYInd _ _ _ | .macuuDual _ _ _ _ _
  | .macuuLong _ _ _ _ | .macsuYInd _ _ _ | .macsuDual _ _ _ _ _ | .macsuLong _ _ _ _
  | .maasuYInd _ _ _ | .maasuDual _ _ _ _ _ | .maasuLong _ _ _ _ | .mpyYDirect _
  | .macYDirect _ _ | .maaYDirect _ _ | .macsuYDirect _ _ | .mpyi _
  | .msuLong _ _ _ _ | .msuDual _ _ _ _ _ | .tstbInd _ _ _ | .tstbDirect _ _
  | .shfc _ _ _ | .shfi _ _ _ | .shrB _ _ | .shr4B _ _
  | .shlB _ _ | .shl4B _ _ | .rorB _ _ | .rolB _ _
  | .clrB _ _ | .expIndA _ _ _ | .expIndSv _ _ | .movAccAcc _ _
  | .movMixpReg _ | .movIcrAcc _ | .movXAcc _ | .movIndB _ _ _
  | .movSpReg _ | .movRnDirect _ _ | .movPartDirect _ _ | .movDirectRn _ _
  | .movDirectAcc _ _ | .movDirectPart _ _ | .movDirectHighEu _ _ | .movDirectSv _
  | .movSvDirect _ | .movDirLongA _ _ | .movLowDirLong _ _ | .movLongReg _ _
  | .movLongB _ _ | .movShortLow _ _ | .movShortHigh _ _ | .movShortRn _ _
  | .movShortExt _ _ | .movShortSv _ | .movImmIcr _ | .movIdx7A _ _
  | .movLowIdx7 _ _ | .movIdx16A _ _ | .movLowIdx16 _ _ | .movpLowReg _ _
  | .movpIndInd _ _ _ _ | .movsInd _ _ _ | .movsDirect _ _ | .movsi _ _ _
  | .movrInd _ _ _ | .pushLong _ | .popReg _ | .swap _
  | .banke _ | .movd _ _ _ _ | .repShort _ | .bkrepShort _ _
  | .br _ _ | .brr _ _ | .call _ _ | .callr _ _
  | .ret _ | .reti _ _ | .rets _ | .modr _ _ _
  | .loadPage _ | .loadModi _ | .loadModj _ | .loadStepi _
  | .loadStepj _ | .loadPs _ | .limA0 | .limA0A1
  | .limA1A0 | .limA1 | .expB0A0 | .expB1A0
  | .expB0A1 | .expB1A1 | .expB0Sv | .expB1Sv
  | .movB0lDvm | .movB1lDvm | .movA0lDvm | .movA1lDvm
  | .movB0lX | .movB1lX | .movA0lX | .movA1lX
  | .movRepcB0 | .movRepcB1 | .movRepcA0 | .movRepcA1
  | .movDvmB0 | .movDvmB1 | .movDvmA0 | .movDvmA1
  | .breakLoop | .callaA0 | .callaA1 | .retd
  | .retid | .cntxS | .cntxR | .nop
  | .eint | .dint | .trap => true

/-- The instruction is one the spec lets a program contain (R158, R159). -/
abbrev Instr.WellFormed (i : Instr) : Prop := i.wellFormed = true

end Sys2Proof
end

