-- ==== Sys2Proof/Decode.lean ====
section
/-! DEFINITION. The decoder (total on any two words, rejecting by name) and the encoder, from the tables of
30_encoding.md R150 to R155. -/

namespace Sys2Proof

/-- The bit field of `len` bits of w from bit `lo` up (00_scope.md R7). -/
def fld (w : Word) (lo len : Nat) : BitVec len := w.extractLsb' lo len

/-- Bit `k` of w. -/
def flagBit (w : Word) (k : Nat) : Bool := w.getLsbD k

/-- The field value v placed at bit `lo` of a word. -/
def put (lo : Nat) {n : Nat} (v : BitVec n) : Word := (v.setWidth 16) <<< lo

/-- The code of each AX. -/
def AX.code : AX → BitVec 1
  | .a0 => 0 | .a1 => 1

/-- The AX of a code: every code is defined. -/
def AX.ofCode (c : BitVec 1) : AX :=
  match c.toNat with
  | 0 => .a0 | _ => .a1

/-- The code of each BX. -/
def BX.code : BX → BitVec 1
  | .b0 => 0 | .b1 => 1

/-- The BX of a code: every code is defined. -/
def BX.ofCode (c : BitVec 1) : BX :=
  match c.toNat with
  | 0 => .b0 | _ => .b1

/-- The code of each AB. -/
def AB.code : AB → BitVec 2
  | .b0 => 0 | .b1 => 1 | .a0 => 2 | .a1 => 3

/-- The AB of a code: every code is defined. -/
def AB.ofCode (c : BitVec 2) : AB :=
  match c.toNat with
  | 0 => .b0 | 1 => .b1 | 2 => .a0 | _ => .a1

/-- The code of each AccPart. -/
def AccPart.code : AccPart → BitVec 3
  | .b0l => 0 | .b0h => 1 | .b1l => 2 | .b1h => 3 | .a0l => 4 | .a0h => 5 | .a1l => 6 | .a1h => 7

/-- The AccPart of a code: every code is defined. -/
def AccPart.ofCode (c : BitVec 3) : AccPart :=
  match c.toNat with
  | 0 => .b0l | 1 => .b0h | 2 => .b1l | 3 => .b1h | 4 => .a0l | 5 => .a0h | 6 => .a1l | _ => .a1h

/-- The code of each PostMod. -/
def PostMod.code : PostMod → BitVec 2
  | .none => 0 | .inc => 1 | .dec => 2 | .step => 3

/-- The PostMod of a code: every code is defined. -/
def PostMod.ofCode (c : BitVec 2) : PostMod :=
  match c.toNat with
  | 0 => .none | 1 => .inc | 2 => .dec | _ => .step

/-- The code of each RN. -/
def RN.code : RN → BitVec 3
  | .r0 => 0 | .r1 => 1 | .r2 => 2 | .r3 => 3 | .r4 => 4 | .r5 => 5

/-- The RN of a code, none for a code that is not defined. -/
def RN.ofCode (c : BitVec 3) : Option RN :=
  match c.toNat with
  | 0 => some .r0 | 1 => some .r1 | 2 => some .r2 | 3 => some .r3 | 4 => some .r4 | 5 => some .r5 | _ => none

/-- The code of each RNStar. -/
def RNStar.code : RNStar → BitVec 3
  | .r0 => 0 | .r1 => 1 | .r2 => 2 | .r3 => 3 | .r4 => 4 | .r5 => 5 | .rb => 6 | .y => 7

/-- The RNStar of a code: every code is defined. -/
def RNStar.ofCode (c : BitVec 3) : RNStar :=
  match c.toNat with
  | 0 => .r0 | 1 => .r1 | 2 => .r2 | 3 => .r3 | 4 => .r4 | 5 => .r5 | 6 => .rb | _ => .y

/-- The code of each RI. -/
def RI.code : RI → BitVec 2
  | .r0 => 0 | .r1 => 1 | .r2 => 2 | .r3 => 3

/-- The RI of a code: every code is defined. -/
def RI.ofCode (c : BitVec 2) : RI :=
  match c.toNat with
  | 0 => .r0 | 1 => .r1 | 2 => .r2 | _ => .r3

/-- The code of each RJ. -/
def RJ.code : RJ → BitVec 1
  | .r4 => 0 | .r5 => 1

/-- The RJ of a code: every code is defined. -/
def RJ.ofCode (c : BitVec 1) : RJ :=
  match c.toNat with
  | 0 => .r4 | _ => .r5

/-- The code of each Reg. -/
def Reg.code : Reg → BitVec 5
  | .r0 => 0 | .r1 => 1 | .r2 => 2 | .r3 => 3 | .r4 => 4 | .r5 => 5 | .rb => 6 | .y => 7 | .st0 => 8
  | .st1 => 9 | .st2 => 10 | .p => 11 | .pc => 12 | .sp => 13 | .cfgi => 14 | .cfgj => 15 | .b0h => 16
  | .b1h => 17 | .b0l => 18 | .b1l => 19 | .ext0 => 20 | .ext1 => 21 | .ext2 => 22 | .ext3 => 23 | .a0 => 24
  | .a1 => 25 | .a0l => 26 | .a1l => 27 | .a0h => 28 | .a1h => 29 | .lc => 30 | .sv => 31

/-- The Reg of a code: every code is defined. -/
def Reg.ofCode (c : BitVec 5) : Reg :=
  match c.toNat with
  | 0 => .r0 | 1 => .r1 | 2 => .r2 | 3 => .r3 | 4 => .r4 | 5 => .r5 | 6 => .rb | 7 => .y | 8 => .st0
  | 9 => .st1 | 10 => .st2 | 11 => .p | 12 => .pc | 13 => .sp | 14 => .cfgi | 15 => .cfgj | 16 => .b0h
  | 17 => .b1h | 18 => .b0l | 19 => .b1l | 20 => .ext0 | 21 => .ext1 | 22 => .ext2 | 23 => .ext3 | 24 => .a0
  | 25 => .a1 | 26 => .a0l | 27 => .a1l | 28 => .a0h | 29 => .a1h | 30 => .lc | _ => .sv

/-- The code of each Cond. -/
def Cond.code : Cond → BitVec 4
  | .always => 0 | .eq => 1 | .neq => 2 | .gt => 3 | .ge => 4 | .lt => 5 | .le => 6 | .nn => 7 | .cSet => 8
  | .vSet => 9 | .eSet => 10 | .lSet => 11 | .nr => 12 | .niu0 => 13 | .iu0 => 14 | .iu1 => 15

/-- The Cond of a code: every code is defined. -/
def Cond.ofCode (c : BitVec 4) : Cond :=
  match c.toNat with
  | 0 => .always | 1 => .eq | 2 => .neq | 3 => .gt | 4 => .ge | 5 => .lt | 6 => .le | 7 => .nn | 8 => .cSet
  | 9 => .vSet | 10 => .eSet | 11 => .lSet | 12 => .nr | 13 => .niu0 | 14 => .iu0 | _ => .iu1

/-- The code of each MaxCond. -/
def MaxCond.code : MaxCond → BitVec 1
  | .ge => 0 | .gt => 1

/-- The MaxCond of a code: every code is defined. -/
def MaxCond.ofCode (c : BitVec 1) : MaxCond :=
  match c.toNat with
  | 0 => .ge | _ => .gt

/-- The code of each MinCond. -/
def MinCond.code : MinCond → BitVec 1
  | .le => 0 | .lt => 1

/-- The MinCond of a code: every code is defined. -/
def MinCond.ofCode (c : BitVec 1) : MinCond :=
  match c.toNat with
  | 0 => .le | _ => .lt

/-- The code of each LimOp. -/
def LimOp.code : LimOp → BitVec 2
  | .a0 => 0 | .a0a1 => 1 | .a1a0 => 2 | .a1 => 3

/-- The LimOp of a code: every code is defined. -/
def LimOp.ofCode (c : BitVec 2) : LimOp :=
  match c.toNat with
  | 0 => .a0 | 1 => .a0a1 | 2 => .a1a0 | _ => .a1

/-- The code of each SwapOp. -/
def SwapOp.code : SwapOp → BitVec 4
  | .a0b0 => 0 | .a0b1 => 1 | .a1b0 => 2 | .a1b1 => 3 | .a0b0a1b1 => 4 | .a0b1a1b0 => 5 | .a0b0a1 => 6
  | .a0b1a1 => 7 | .a1b0a0 => 8 | .a1b1a0 => 9 | .b0a0b1 => 10 | .b0a1b1 => 11 | .b1a0b0 => 12 | .b1a1b0 => 13

/-- The SwapOp of a code, none for a code that is not defined. -/
def SwapOp.ofCode (c : BitVec 4) : Option SwapOp :=
  match c.toNat with
  | 0 => some .a0b0 | 1 => some .a0b1 | 2 => some .a1b0 | 3 => some .a1b1 | 4 => some .a0b0a1b1
  | 5 => some .a0b1a1b0 | 6 => some .a0b0a1 | 7 => some .a0b1a1 | 8 => some .a1b0a0 | 9 => some .a1b1a0
  | 10 => some .b0a0b1 | 11 => some .b0a1b1 | 12 => some .b1a0b0 | 13 => some .b1a1b0 | _ => none

/-- The code of each MovrPtr. -/
def MovrPtr.code : MovrPtr → BitVec 2
  | .r0 => 0 | .r4 => 1 | .r2 => 2 | .r5 => 3

/-- The MovrPtr of a code: every code is defined. -/
def MovrPtr.ofCode (c : BitVec 2) : MovrPtr :=
  match c.toNat with
  | 0 => .r0 | 1 => .r4 | 2 => .r2 | _ => .r5

/-- The code of each ExtReg. -/
def ExtReg.code : ExtReg → BitVec 2
  | .ext0 => 0 | .ext1 => 1 | .ext2 => 2 | .ext3 => 3

/-- The ExtReg of a code: every code is defined. -/
def ExtReg.ofCode (c : BitVec 2) : ExtReg :=
  match c.toNat with
  | 0 => .ext0 | 1 => .ext1 | 2 => .ext2 | _ => .ext3

/-- The `MM` code of `movr (rN), abXh`: 00 = +1, 01 = -1, 10 = +0, 11 = +s (R149). -/
def PostMod.movrCode : PostMod → BitVec 2
  | .inc => 0 | .dec => 1 | .none => 2 | .step => 3

/-- The post-modification of an `MM` code (R149). -/
def PostMod.ofMovrCode (c : BitVec 2) : PostMod :=
  match c.toNat with
  | 0 => .inc | 1 => .dec | 2 => .none | _ => .step

/-- One row of the encoding table: a first word w has the pattern when `w AND mask = bits` (R150); `parse` reads the
fields of w and the operand word v, none for a register field code that is not defined (R137, R158). -/
structure Row where
  mask : Nat
  bits : Nat
  words : Nat
  parse : Word → Word → Option Instr

/-- Rows of R153. -/
def moveRows1 : List Row := [
  ⟨0xFCE4, 0x8864, 1, fun w _ => some (.movrIndPart (AB.ofCode (fld w 8 2)) (MovrPtr.ofCode (fld w 3 2)) (PostMod.ofMovrCode (fld w 0 2)))⟩,
  ⟨0xFC00, 0x5800, 1, fun w _ => some (.movRegReg (Reg.ofCode (fld w 5 5)) (Reg.ofCode (fld w 0 5)))⟩,
  ⟨0xF398, 0xD290, 1, fun w _ => some (.movAccAcc (AB.ofCode (fld w 10 2)) (AB.ofCode (fld w 5 2)))⟩,
  ⟨0xF3D8, 0xD298, 1, fun w _ => match AB.ofCode (fld w 10 2) with | .b0 => some .movB0lDvm | .b1 => some .movB1lDvm | .a0 => some .movA0lDvm | .a1 => some .movA1lDvm⟩,
  ⟨0xF3D8, 0xD2D8, 1, fun w _ => match AB.ofCode (fld w 10 2) with | .b0 => some .movB0lX | .b1 => some .movB1lX | .a0 => some .movA0lX | .a1 => some .movA1lX⟩,
  ⟨0xFFC0, 0x5EC0, 1, fun w _ => some (.movRegB (BX.ofCode (fld w 5 1)) (Reg.ofCode (fld w 0 5)))⟩,
  ⟨0xFFC0, 0x5E80, 1, fun w _ => some (.movRegMixp (Reg.ofCode (fld w 0 5)))⟩,
  ⟨0xFC00, 0x1800, 1, fun w _ => (RN.ofCode (fld w 0 3)).map fun n => .movRegInd (Reg.ofCode (fld w 5 5)) n (PostMod.ofCode (fld w 3 2))⟩,
  ⟨0xFFE0, 0x47C0, 1, fun w _ => some (.movMixpReg (Reg.ofCode (fld w 0 5)))⟩,
  ⟨0xFE9B, 0xD490, 1, fun w _ => match AB.ofCode (fld w 5 2) with | .b0 => some .movRepcB0 | .b1 => some .movRepcB1 | .a0 => some .movRepcA0 | .a1 => some .movRepcA1⟩,
  ⟨0xFE9B, 0xD491, 1, fun w _ => match AB.ofCode (fld w 5 2) with | .b0 => some .movDvmB0 | .b1 => some .movDvmB1 | .a0 => some .movDvmA0 | .a1 => some .movDvmA1⟩,
  ⟨0xFE9B, 0xD492, 1, fun w _ => some (.movIcrAcc (AB.ofCode (fld w 5 2)))⟩,
  ⟨0xFE9B, 0xD493, 1, fun w _ => some (.movXAcc (AB.ofCode (fld w 5 2)))⟩,
  ⟨0xFC00, 0x1C00, 1, fun w _ => (RN.ofCode (fld w 0 3)).map fun n => .movIndReg (Reg.ofCode (fld w 5 5)) n (PostMod.ofCode (fld w 3 2))⟩,
  ⟨0xFEC0, 0x98C0, 1, fun w _ => (RN.ofCode (fld w 0 3)).map fun n => .movIndB (BX.ofCode (fld w 8 1)) n (PostMod.ofCode (fld w 3 2))⟩,
  ⟨0xFFE0, 0x47E0, 1, fun w _ => some (.movSpReg (Reg.ofCode (fld w 0 5)))⟩,
  ⟨0xF100, 0x2000, 1, fun w _ => some (.movRnDirect (RNStar.ofCode (fld w 9 3)) (fld w 0 8))⟩,
  ⟨0xF100, 0x3000, 1, fun w _ => some (.movPartDirect (AccPart.ofCode (fld w 9 3)) (fld w 0 8))⟩,
  ⟨0xE300, 0x6000, 1, fun w _ => some (.movDirectRn (RNStar.ofCode (fld w 10 3)) (fld w 0 8))⟩,
  ⟨0xE700, 0x6100, 1, fun w _ => some (.movDirectAcc (AB.ofCode (fld w 11 2)) (fld w 0 8))⟩,
  ⟨0xE300, 0x6200, 1, fun w _ => some (.movDirectPart (AccPart.ofCode (fld w 10 3)) (fld w 0 8))⟩,
  ⟨0xEF00, 0x6500, 1, fun w _ => some (.movDirectHighEu (AX.ofCode (fld w 12 1)) (fld w 0 8))⟩,
  ⟨0xFF00, 0x6D00, 1, fun w _ => some (.movDirectSv (fld w 0 8))⟩,
  ⟨0xFF00, 0x7D00, 1, fun w _ => some (.movSvDirect (fld w 0 8))⟩,
  ⟨0xFEFC, 0xD4B8, 2, fun w v => some (.movDirLongA (AX.ofCode (fld w 8 1)) v)⟩,
  ⟨0xFEFC, 0xD4BC, 2, fun w v => some (.movLowDirLong (AX.ofCode (fld w 8 1)) v)⟩,
  ⟨0xFEE0, 0x5E00, 2, fun w v => some (.movLongReg (Reg.ofCode (fld w 0 5)) v)⟩,
  ⟨0xFEE0, 0x5E20, 2, fun w v => some (.movLongB (BX.ofCode (fld w 8 1)) v)⟩,
  ⟨0xEF00, 0x2100, 1, fun w _ => some (.movShortLow (AX.ofCode (fld w 12 1)) (fld w 0 8))⟩,
  ⟨0xEF00, 0x2500, 1, fun w _ => some (.movShortHigh (AX.ofCode (fld w 12 1)) (fld w 0 8))⟩,
  ⟨0xE300, 0x2300, 1, fun w _ => some (.movShortRn (RNStar.ofCode (fld w 10 3)) (fld w 0 8))⟩,
  ⟨0xEB00, 0x2900, 1, fun w _ => some (.movShortExt (ExtReg.ofCode (fld w 12 1 ++ fld w 10 1)) (fld w 0 8))⟩,
  ⟨0xFF00, 0x0500, 1, fun w _ => some (.movShortSv (fld w 0 8))⟩,
  ⟨0xFFC0, 0x4FC0, 1, fun w _ => some (.movRegIcr (Reg.ofCode (fld w 0 5)))⟩,
  ⟨0xFFC0, 0x4F80, 1, fun w _ => some (.movImmIcr (fld w 0 5))⟩,
  ⟨0xFE80, 0xD880, 1, fun w _ => some (.movIdx7A (AX.ofCode (fld w 8 1)) (fld w 0 7))⟩,
  ⟨0xFE80, 0xDC80, 1, fun w _ => some (.movLowIdx7 (AX.ofCode (fld w 8 1)) (fld w 0 7))⟩,
  ⟨0xFEFC, 0xD498, 2, fun w v => some (.movIdx16A (AX.ofCode (fld w 8 1)) v)⟩,
  ⟨0xFEFC, 0xD49C, 2, fun w v => some (.movLowIdx16 (AX.ofCode (fld w 8 1)) v)⟩,
  ⟨0xFFC0, 0x0040, 1, fun w _ => some (.movpLowReg (AX.ofCode (fld w 5 1)) (Reg.ofCode (fld w 0 5)))⟩]

/-- Rows of R153. -/
def moveRows2 : List Row := [
  ⟨0xFE00, 0x0600, 1, fun w _ => (RN.ofCode (fld w 0 3)).map fun n => .movpIndInd (RI.ofCode (fld w 5 2)) (PostMod.ofCode (fld w 7 2)) n (PostMod.ofCode (fld w 3 2))⟩,
  ⟨0xFF80, 0x0100, 1, fun w _ => some (.movsReg (AB.ofCode (fld w 5 2)) (Reg.ofCode (fld w 0 5)))⟩,
  ⟨0xFF80, 0x0180, 1, fun w _ => (RN.ofCode (fld w 0 3)).map fun n => .movsInd (AB.ofCode (fld w 5 2)) n (PostMod.ofCode (fld w 3 2))⟩,
  ⟨0xE700, 0x6300, 1, fun w _ => some (.movsDirect (AB.ofCode (fld w 11 2)) (fld w 0 8))⟩,
  ⟨0xF180, 0x4080, 1, fun w _ => some (.movsi (RNStar.ofCode (fld w 9 3)) (AB.ofCode (fld w 5 2)) (fld w 0 5))⟩,
  ⟨0xFEE0, 0x9CC0, 1, fun w _ => some (.movrReg (AX.ofCode (fld w 8 1)) (Reg.ofCode (fld w 0 5)))⟩,
  ⟨0xFEE0, 0x9CE0, 1, fun w _ => (RN.ofCode (fld w 0 3)).map fun n => .movrInd (AX.ofCode (fld w 8 1)) n (PostMod.ofCode (fld w 3 2))⟩,
  ⟨0xFFE0, 0x5E40, 1, fun w _ => some (.pushReg (Reg.ofCode (fld w 0 5)))⟩,
  ⟨0xFFC0, 0x5F40, 2, fun _ v => some (.pushLong v)⟩,
  ⟨0xFFE0, 0x5E60, 1, fun w _ => some (.popReg (Reg.ofCode (fld w 0 5)))⟩,
  ⟨0xFFC0, 0x4980, 1, fun w _ => (SwapOp.ofCode (fld w 0 4)).map fun o => .swap o⟩,
  ⟨0xFF80, 0x4B80, 1, fun w _ => some (.banke (fld w 0 4))⟩,
  ⟨0xFF80, 0x5F80, 1, fun w _ => some (.movd (RI.ofCode (fld w 0 2)) (PostMod.ofCode (fld w 3 2)) (RJ.ofCode (fld w 2 1)) (PostMod.ofCode (fld w 5 2)))⟩]

/-- Rows of R150. -/
def aluRows1 : List Row := [
  ⟨0xFE00, 0xA000, 1, fun w _ => some (.orDirect (AX.ofCode (fld w 8 1)) (fld w 0 8))⟩,
  ⟨0xFEE0, 0x8080, 1, fun w _ => (RN.ofCode (fld w 0 3)).map fun n => .orInd (AX.ofCode (fld w 8 1)) n (PostMod.ofCode (fld w 3 2))⟩,
  ⟨0xFEE0, 0x80A0, 1, fun w _ => some (.orReg (AX.ofCode (fld w 8 1)) (Reg.ofCode (fld w 0 5)))⟩,
  ⟨0xFE00, 0xA200, 1, fun w _ => some (.andDirect (AX.ofCode (fld w 8 1)) (fld w 0 8))⟩,
  ⟨0xFEE0, 0x8280, 1, fun w _ => (RN.ofCode (fld w 0 3)).map fun n => .andInd (AX.ofCode (fld w 8 1)) n (PostMod.ofCode (fld w 3 2))⟩,
  ⟨0xFEE0, 0x82A0, 1, fun w _ => some (.andReg (AX.ofCode (fld w 8 1)) (Reg.ofCode (fld w 0 5)))⟩,
  ⟨0xFE00, 0xA400, 1, fun w _ => some (.xorDirect (AX.ofCode (fld w 8 1)) (fld w 0 8))⟩,
  ⟨0xFEE0, 0x8480, 1, fun w _ => (RN.ofCode (fld w 0 3)).map fun n => .xorInd (AX.ofCode (fld w 8 1)) n (PostMod.ofCode (fld w 3 2))⟩,
  ⟨0xFEE0, 0x84A0, 1, fun w _ => some (.xorReg (AX.ofCode (fld w 8 1)) (Reg.ofCode (fld w 0 5)))⟩,
  ⟨0xFE00, 0xA600, 1, fun w _ => some (.addDirect (AX.ofCode (fld w 8 1)) (fld w 0 8))⟩,
  ⟨0xFEE0, 0x8680, 1, fun w _ => (RN.ofCode (fld w 0 3)).map fun n => .addInd (AX.ofCode (fld w 8 1)) n (PostMod.ofCode (fld w 3 2))⟩,
  ⟨0xFEE0, 0x86A0, 1, fun w _ => some (.addReg (AX.ofCode (fld w 8 1)) (Reg.ofCode (fld w 0 5)))⟩,
  ⟨0xFE00, 0xAC00, 1, fun w _ => some (.cmpDirect (AX.ofCode (fld w 8 1)) (fld w 0 8))⟩,
  ⟨0xFEE0, 0x8C80, 1, fun w _ => (RN.ofCode (fld w 0 3)).map fun n => .cmpInd (AX.ofCode (fld w 8 1)) n (PostMod.ofCode (fld w 3 2))⟩,
  ⟨0xFEE0, 0x8CA0, 1, fun w _ => some (.cmpReg (AX.ofCode (fld w 8 1)) (Reg.ofCode (fld w 0 5)))⟩,
  ⟨0xFE00, 0xAE00, 1, fun w _ => some (.subDirect (AX.ofCode (fld w 8 1)) (fld w 0 8))⟩,
  ⟨0xFEE0, 0x8E80, 1, fun w _ => (RN.ofCode (fld w 0 3)).map fun n => .subInd (AX.ofCode (fld w 8 1)) n (PostMod.ofCode (fld w 3 2))⟩,
  ⟨0xFEE0, 0x8EA0, 1, fun w _ => some (.subReg (AX.ofCode (fld w 8 1)) (Reg.ofCode (fld w 0 5)))⟩,
  ⟨0xFE00, 0xB200, 1, fun w _ => some (.addhDirect (AX.ofCode (fld w 8 1)) (fld w 0 8))⟩,
  ⟨0xFEE0, 0x9280, 1, fun w _ => (RN.ofCode (fld w 0 3)).map fun n => .addhInd (AX.ofCode (fld w 8 1)) n (PostMod.ofCode (fld w 3 2))⟩,
  ⟨0xFEE0, 0x92A0, 1, fun w _ => some (.addhReg (AX.ofCode (fld w 8 1)) (Reg.ofCode (fld w 0 5)))⟩,
  ⟨0xFE00, 0xB400, 1, fun w _ => some (.addlDirect (AX.ofCode (fld w 8 1)) (fld w 0 8))⟩,
  ⟨0xFEE0, 0x9480, 1, fun w _ => (RN.ofCode (fld w 0 3)).map fun n => .addlInd (AX.ofCode (fld w 8 1)) n (PostMod.ofCode (fld w 3 2))⟩,
  ⟨0xFEE0, 0x94A0, 1, fun w _ => some (.addlReg (AX.ofCode (fld w 8 1)) (Reg.ofCode (fld w 0 5)))⟩,
  ⟨0xFE00, 0xB600, 1, fun w _ => some (.subhDirect (AX.ofCode (fld w 8 1)) (fld w 0 8))⟩,
  ⟨0xFEE0, 0x9680, 1, fun w _ => (RN.ofCode (fld w 0 3)).map fun n => .subhInd (AX.ofCode (fld w 8 1)) n (PostMod.ofCode (fld w 3 2))⟩,
  ⟨0xFEE0, 0x96A0, 1, fun w _ => some (.subhReg (AX.ofCode (fld w 8 1)) (Reg.ofCode (fld w 0 5)))⟩,
  ⟨0xFE00, 0xB800, 1, fun w _ => some (.sublDirect (AX.ofCode (fld w 8 1)) (fld w 0 8))⟩,
  ⟨0xFEE0, 0x9880, 1, fun w _ => (RN.ofCode (fld w 0 3)).map fun n => .sublInd (AX.ofCode (fld w 8 1)) n (PostMod.ofCode (fld w 3 2))⟩,
  ⟨0xFEE0, 0x98A0, 1, fun w _ => some (.sublReg (AX.ofCode (fld w 8 1)) (Reg.ofCode (fld w 0 5)))⟩,
  ⟨0xFE00, 0xBE00, 1, fun w _ => some (.cmpuDirect (AX.ofCode (fld w 8 1)) (fld w 0 8))⟩,
  ⟨0xFEE0, 0x9E80, 1, fun w _ => (RN.ofCode (fld w 0 3)).map fun n => .cmpuInd (AX.ofCode (fld w 8 1)) n (PostMod.ofCode (fld w 3 2))⟩,
  ⟨0xFEE0, 0x9EA0, 1, fun w _ => some (.cmpuReg (AX.ofCode (fld w 8 1)) (Reg.ofCode (fld w 0 5)))⟩,
  ⟨0xFE00, 0xC000, 1, fun w _ => some (.orShort (AX.ofCode (fld w 8 1)) (fld w 0 8))⟩,
  ⟨0xFEE0, 0x80C0, 2, fun w v => some (.orLong (AX.ofCode (fld w 8 1)) v)⟩,
  ⟨0xFE80, 0x4000, 1, fun w _ => some (.orIdx7 (AX.ofCode (fld w 8 1)) (fld w 0 7))⟩,
  ⟨0xFEFF, 0xD4D8, 2, fun w v => some (.orIdx16 (AX.ofCode (fld w 8 1)) v)⟩,
  ⟨0xFEFF, 0xD4F8, 2, fun w v => some (.orDirLong (AX.ofCode (fld w 8 1)) v)⟩,
  ⟨0xFE00, 0xC200, 1, fun w _ => some (.andShort (AX.ofCode (fld w 8 1)) (fld w 0 8))⟩,
  ⟨0xFEE0, 0x82C0, 2, fun w v => some (.andLong (AX.ofCode (fld w 8 1)) v)⟩]

/-- Rows of R150. -/
def aluRows2 : List Row := [
  ⟨0xFE80, 0x4200, 1, fun w _ => some (.andIdx7 (AX.ofCode (fld w 8 1)) (fld w 0 7))⟩,
  ⟨0xFEFF, 0xD4D9, 2, fun w v => some (.andIdx16 (AX.ofCode (fld w 8 1)) v)⟩,
  ⟨0xFEFF, 0xD4F9, 2, fun w v => some (.andDirLong (AX.ofCode (fld w 8 1)) v)⟩,
  ⟨0xFE00, 0xC400, 1, fun w _ => some (.xorShort (AX.ofCode (fld w 8 1)) (fld w 0 8))⟩,
  ⟨0xFEE0, 0x84C0, 2, fun w v => some (.xorLong (AX.ofCode (fld w 8 1)) v)⟩,
  ⟨0xFE80, 0x4400, 1, fun w _ => some (.xorIdx7 (AX.ofCode (fld w 8 1)) (fld w 0 7))⟩,
  ⟨0xFEFF, 0xD4DA, 2, fun w v => some (.xorIdx16 (AX.ofCode (fld w 8 1)) v)⟩,
  ⟨0xFEFF, 0xD4FA, 2, fun w v => some (.xorDirLong (AX.ofCode (fld w 8 1)) v)⟩,
  ⟨0xFE00, 0xC600, 1, fun w _ => some (.addShort (AX.ofCode (fld w 8 1)) (fld w 0 8))⟩,
  ⟨0xFEE0, 0x86C0, 2, fun w v => some (.addLong (AX.ofCode (fld w 8 1)) v)⟩,
  ⟨0xFE80, 0x4600, 1, fun w _ => some (.addIdx7 (AX.ofCode (fld w 8 1)) (fld w 0 7))⟩,
  ⟨0xFEFF, 0xD4DB, 2, fun w v => some (.addIdx16 (AX.ofCode (fld w 8 1)) v)⟩,
  ⟨0xFEFF, 0xD4FB, 2, fun w v => some (.addDirLong (AX.ofCode (fld w 8 1)) v)⟩,
  ⟨0xFE00, 0xCC00, 1, fun w _ => some (.cmpShort (AX.ofCode (fld w 8 1)) (fld w 0 8))⟩,
  ⟨0xFEE0, 0x8CC0, 2, fun w v => some (.cmpLong (AX.ofCode (fld w 8 1)) v)⟩,
  ⟨0xFE80, 0x4C00, 1, fun w _ => some (.cmpIdx7 (AX.ofCode (fld w 8 1)) (fld w 0 7))⟩,
  ⟨0xFEFF, 0xD4DE, 2, fun w v => some (.cmpIdx16 (AX.ofCode (fld w 8 1)) v)⟩,
  ⟨0xFEFF, 0xD4FE, 2, fun w v => some (.cmpDirLong (AX.ofCode (fld w 8 1)) v)⟩,
  ⟨0xFE00, 0xCE00, 1, fun w _ => some (.subShort (AX.ofCode (fld w 8 1)) (fld w 0 8))⟩,
  ⟨0xFEE0, 0x8EC0, 2, fun w v => some (.subLong (AX.ofCode (fld w 8 1)) v)⟩,
  ⟨0xFE80, 0x4E00, 1, fun w _ => some (.subIdx7 (AX.ofCode (fld w 8 1)) (fld w 0 7))⟩,
  ⟨0xFEFF, 0xD4DF, 2, fun w v => some (.subIdx16 (AX.ofCode (fld w 8 1)) v)⟩,
  ⟨0xFEFF, 0xD4FF, 2, fun w v => some (.subDirLong (AX.ofCode (fld w 8 1)) v)⟩,
  ⟨0xEFF0, 0x6700, 1, fun w _ => some (.shrA (AX.ofCode (fld w 12 1)) (Cond.ofCode (fld w 0 4)))⟩,
  ⟨0xEFF0, 0x6710, 1, fun w _ => some (.shr4A (AX.ofCode (fld w 12 1)) (Cond.ofCode (fld w 0 4)))⟩,
  ⟨0xEFF0, 0x6720, 1, fun w _ => some (.shlA (AX.ofCode (fld w 12 1)) (Cond.ofCode (fld w 0 4)))⟩,
  ⟨0xEFF0, 0x6730, 1, fun w _ => some (.shl4A (AX.ofCode (fld w 12 1)) (Cond.ofCode (fld w 0 4)))⟩,
  ⟨0xEFF0, 0x6740, 1, fun w _ => some (.rorA (AX.ofCode (fld w 12 1)) (Cond.ofCode (fld w 0 4)))⟩,
  ⟨0xEFF0, 0x6750, 1, fun w _ => some (.rolA (AX.ofCode (fld w 12 1)) (Cond.ofCode (fld w 0 4)))⟩,
  ⟨0xEFF0, 0x6760, 1, fun w _ => some (.clrA (AX.ofCode (fld w 12 1)) (Cond.ofCode (fld w 0 4)))⟩,
  ⟨0xEFF0, 0x6780, 1, fun w _ => some (.notA (AX.ofCode (fld w 12 1)) (Cond.ofCode (fld w 0 4)))⟩,
  ⟨0xEFF0, 0x6790, 1, fun w _ => some (.negA (AX.ofCode (fld w 12 1)) (Cond.ofCode (fld w 0 4)))⟩,
  ⟨0xEFF0, 0x67A0, 1, fun w _ => some (.rndA (AX.ofCode (fld w 12 1)) (Cond.ofCode (fld w 0 4)))⟩,
  ⟨0xEFF0, 0x67B0, 1, fun w _ => some (.pacrA (AX.ofCode (fld w 12 1)) (Cond.ofCode (fld w 0 4)))⟩,
  ⟨0xEFF0, 0x67C0, 1, fun w _ => some (.clrrA (AX.ofCode (fld w 12 1)) (Cond.ofCode (fld w 0 4)))⟩,
  ⟨0xEFF0, 0x67D0, 1, fun w _ => some (.incA (AX.ofCode (fld w 12 1)) (Cond.ofCode (fld w 0 4)))⟩,
  ⟨0xEFF0, 0x67E0, 1, fun w _ => some (.decA (AX.ofCode (fld w 12 1)) (Cond.ofCode (fld w 0 4)))⟩,
  ⟨0xEFF0, 0x67F0, 1, fun w _ => some (.copyA (AX.ofCode (fld w 12 1)) (Cond.ofCode (fld w 0 4)))⟩,
  ⟨0xFEC0, 0x94C0, 1, fun w _ => (RN.ofCode (fld w 0 3)).map fun n => .norm (AX.ofCode (fld w 8 1)) n (PostMod.ofCode (fld w 3 2))⟩,
  ⟨0xFE00, 0x0E00, 1, fun w _ => some (.divs (AX.ofCode (fld w 8 1)) (fld w 0 8))⟩]

/-- Rows of R150 (`min` without the words that are `movr (rN), abXh`, R157). -/
def aluRows3 : List Row := [
  ⟨0xFFE0, 0x86E0, 2, fun w v => (RN.ofCode (fld w 0 3)).map fun n => .addvInd n (PostMod.ofCode (fld w 3 2)) v⟩,
  ⟨0xFFE0, 0x87E0, 2, fun w v => some (.addvReg (Reg.ofCode (fld w 0 5)) v)⟩,
  ⟨0xFF00, 0xE700, 2, fun w v => some (.addvDirect (fld w 0 8) v)⟩,
  ⟨0xFFE0, 0x8CE0, 2, fun w v => (RN.ofCode (fld w 0 3)).map fun n => .cmpvInd n (PostMod.ofCode (fld w 3 2)) v⟩,
  ⟨0xFFE0, 0x8DE0, 2, fun w v => some (.cmpvReg (Reg.ofCode (fld w 0 5)) v)⟩,
  ⟨0xFF00, 0xED00, 2, fun w v => some (.cmpvDirect (fld w 0 8) v)⟩,
  ⟨0xFFE0, 0x8EE0, 2, fun w v => (RN.ofCode (fld w 0 3)).map fun n => .subvInd n (PostMod.ofCode (fld w 3 2)) v⟩,
  ⟨0xFFE0, 0x8FE0, 2, fun w v => some (.subvReg (Reg.ofCode (fld w 0 5)) v)⟩,
  ⟨0xFF00, 0xEF00, 2, fun w v => some (.subvDirect (fld w 0 8) v)⟩,
  ⟨0xFCE0, 0x8060, 1, fun w _ => some (.maxd (MaxCond.ofCode (fld w 9 1)) (AX.ofCode (fld w 8 1)) (PostMod.ofCode (fld w 3 2)))⟩,
  ⟨0xFCE0, 0x8460, 1, fun w _ => some (.max (MaxCond.ofCode (fld w 9 1)) (AX.ofCode (fld w 8 1)) (PostMod.ofCode (fld w 3 2)))⟩,
  ⟨0xFCE0, 0x8C60, 1, fun w _ => some (.min (MinCond.ofCode (fld w 9 1)) (AX.ofCode (fld w 8 1)) (PostMod.ofCode (fld w 3 2)))⟩,
  ⟨0xFCE4, 0x8860, 1, fun w _ => some (.min (MinCond.ofCode (fld w 9 1)) (AX.ofCode (fld w 8 1)) (PostMod.ofCode (fld w 3 2)))⟩,
  ⟨0xFFC0, 0x49C0, 1, fun w _ => match LimOp.ofCode (fld w 4 2) with | .a0 => some .limA0 | .a0a1 => some .limA0A1 | .a1a0 => some .limA1A0 | .a1 => some .limA1⟩]

/-- Rows of R152. -/
def bmuRows : List Row := [
  ⟨0xFE00, 0xA800, 1, fun w _ => some (.tst0Direct (AX.ofCode (fld w 8 1)) (fld w 0 8))⟩,
  ⟨0xFEE0, 0x8880, 1, fun w _ => (RN.ofCode (fld w 0 3)).map fun n => .tst0Ind (AX.ofCode (fld w 8 1)) n (PostMod.ofCode (fld w 3 2))⟩,
  ⟨0xFEE0, 0x88A0, 1, fun w _ => some (.tst0Reg (AX.ofCode (fld w 8 1)) (Reg.ofCode (fld w 0 5)))⟩,
  ⟨0xFE00, 0xAA00, 1, fun w _ => some (.tst1Direct (AX.ofCode (fld w 8 1)) (fld w 0 8))⟩,
  ⟨0xFEE0, 0x8A80, 1, fun w _ => (RN.ofCode (fld w 0 3)).map fun n => .tst1Ind (AX.ofCode (fld w 8 1)) n (PostMod.ofCode (fld w 3 2))⟩,
  ⟨0xFEE0, 0x8AA0, 1, fun w _ => some (.tst1Reg (AX.ofCode (fld w 8 1)) (Reg.ofCode (fld w 0 5)))⟩,
  ⟨0xFFE0, 0x80E0, 2, fun w v => (RN.ofCode (fld w 0 3)).map fun n => .setInd n (PostMod.ofCode (fld w 3 2)) v⟩,
  ⟨0xFFE0, 0x81E0, 2, fun w v => some (.setReg (Reg.ofCode (fld w 0 5)) v)⟩,
  ⟨0xFF00, 0xE100, 2, fun w v => some (.setDirect (fld w 0 8) v)⟩,
  ⟨0xFFE0, 0x82E0, 2, fun w v => (RN.ofCode (fld w 0 3)).map fun n => .rstInd n (PostMod.ofCode (fld w 3 2)) v⟩,
  ⟨0xFFE0, 0x83E0, 2, fun w v => some (.rstReg (Reg.ofCode (fld w 0 5)) v)⟩,
  ⟨0xFF00, 0xE300, 2, fun w v => some (.rstDirect (fld w 0 8) v)⟩,
  ⟨0xFFE0, 0x84E0, 2, fun w v => (RN.ofCode (fld w 0 3)).map fun n => .chngInd n (PostMod.ofCode (fld w 3 2)) v⟩,
  ⟨0xFFE0, 0x85E0, 2, fun w v => some (.chngReg (Reg.ofCode (fld w 0 5)) v)⟩,
  ⟨0xFF00, 0xE500, 2, fun w v => some (.chngDirect (fld w 0 8) v)⟩,
  ⟨0xFFE0, 0x88E0, 2, fun w v => (RN.ofCode (fld w 0 3)).map fun n => .tst0LongInd n (PostMod.ofCode (fld w 3 2)) v⟩,
  ⟨0xFFE0, 0x89E0, 2, fun w v => some (.tst0LongReg (Reg.ofCode (fld w 0 5)) v)⟩,
  ⟨0xFF00, 0xE900, 2, fun w v => some (.tst0LongDirect (fld w 0 8) v)⟩,
  ⟨0xFFE0, 0x8AE0, 2, fun w v => (RN.ofCode (fld w 0 3)).map fun n => .tst1LongInd n (PostMod.ofCode (fld w 3 2)) v⟩,
  ⟨0xFFE0, 0x8BE0, 2, fun w v => some (.tst1LongReg (Reg.ofCode (fld w 0 5)) v)⟩,
  ⟨0xFF00, 0xEB00, 2, fun w v => some (.tst1LongDirect (fld w 0 8) v)⟩,
  ⟨0xF0E0, 0x9020, 1, fun w _ => (RN.ofCode (fld w 0 3)).map fun n => .tstbInd (fld w 8 4) n (PostMod.ofCode (fld w 3 2))⟩,
  ⟨0xF0E0, 0x9000, 1, fun w _ => some (.tstbReg (fld w 8 4) (Reg.ofCode (fld w 0 5)))⟩,
  ⟨0xF000, 0xF000, 1, fun w _ => some (.tstbDirect (fld w 8 4) (fld w 0 8))⟩,
  ⟨0xF390, 0xD280, 1, fun w _ => some (.shfc (AB.ofCode (fld w 10 2)) (AB.ofCode (fld w 5 2)) (Cond.ofCode (fld w 0 4)))⟩,
  ⟨0xF240, 0x9240, 1, fun w _ => some (.shfi (AB.ofCode (fld w 10 2)) (AB.ofCode (fld w 7 2)) (fld w 0 6))⟩,
  ⟨0xEF70, 0x6F00, 1, fun w _ => some (.shrB (BX.ofCode (fld w 12 1)) (Cond.ofCode (fld w 0 4)))⟩,
  ⟨0xEF70, 0x6F10, 1, fun w _ => some (.shr4B (BX.ofCode (fld w 12 1)) (Cond.ofCode (fld w 0 4)))⟩,
  ⟨0xEF70, 0x6F20, 1, fun w _ => some (.shlB (BX.ofCode (fld w 12 1)) (Cond.ofCode (fld w 0 4)))⟩,
  ⟨0xEF70, 0x6F30, 1, fun w _ => some (.shl4B (BX.ofCode (fld w 12 1)) (Cond.ofCode (fld w 0 4)))⟩,
  ⟨0xEF70, 0x6F40, 1, fun w _ => some (.rorB (BX.ofCode (fld w 12 1)) (Cond.ofCode (fld w 0 4)))⟩,
  ⟨0xEF70, 0x6F50, 1, fun w _ => some (.rolB (BX.ofCode (fld w 12 1)) (Cond.ofCode (fld w 0 4)))⟩,
  ⟨0xEF70, 0x6F60, 1, fun w _ => some (.clrB (BX.ofCode (fld w 12 1)) (Cond.ofCode (fld w 0 4)))⟩,
  ⟨0xFEC0, 0x9840, 1, fun w _ => (RN.ofCode (fld w 0 3)).map fun n => .expIndA (AX.ofCode (fld w 8 1)) n (PostMod.ofCode (fld w 3 2))⟩,
  ⟨0xFEE0, 0x9040, 1, fun w _ => some (.expRegA (AX.ofCode (fld w 8 1)) (Reg.ofCode (fld w 0 5)))⟩,
  ⟨0xFEE0, 0x9060, 1, fun w _ => match AX.ofCode (fld w 8 1), BX.ofCode (fld w 0 1) with | .a0, .b0 => some .expB0A0 | .a0, .b1 => some .expB1A0 | .a1, .b0 => some .expB0A1 | .a1, .b1 => some .expB1A1⟩,
  ⟨0xFEC0, 0x9C40, 1, fun w _ => (RN.ofCode (fld w 0 3)).map fun n => .expIndSv n (PostMod.ofCode (fld w 3 2))⟩,
  ⟨0xFEE0, 0x9440, 1, fun w _ => some (.expRegSv (Reg.ofCode (fld w 0 5)))⟩,
  ⟨0xFEE0, 0x9460, 1, fun w _ => match BX.ofCode (fld w 0 1) with | .b0 => some .expB0Sv | .b1 => some .expB1Sv⟩]

/-- Rows of R151. -/
def mulRows1 : List Row := [
  ⟨0xFE00, 0xB000, 1, fun w _ => some (.msuYDirect (AX.ofCode (fld w 8 1)) (fld w 0 8))⟩,
  ⟨0xFEE0, 0x9080, 1, fun w _ => (RN.ofCode (fld w 0 3)).map fun n => .msuYInd (AX.ofCode (fld w 8 1)) n (PostMod.ofCode (fld w 3 2))⟩,
  ⟨0xFEE0, 0x90A0, 1, fun w _ => some (.msuYReg (AX.ofCode (fld w 8 1)) (Reg.ofCode (fld w 0 5)))⟩,
  ⟨0xFE00, 0xBA00, 1, fun w _ => some (.sqrDirect (fld w 0 8))⟩,
  ⟨0xFEE0, 0x9A80, 1, fun w _ => (RN.ofCode (fld w 0 3)).map fun n => .sqrInd n (PostMod.ofCode (fld w 3 2))⟩,
  ⟨0xFEE0, 0x9AA0, 1, fun w _ => some (.sqrReg (Reg.ofCode (fld w 0 5)))⟩,
  ⟨0xFE00, 0xBC00, 1, fun w _ => some (.sqraDirect (AX.ofCode (fld w 8 1)) (fld w 0 8))⟩,
  ⟨0xFEE0, 0x9C80, 1, fun w _ => (RN.ofCode (fld w 0 3)).map fun n => .sqraInd (AX.ofCode (fld w 8 1)) n (PostMod.ofCode (fld w 3 2))⟩,
  ⟨0xFEE0, 0x9CA0, 1, fun w _ => some (.sqraReg (AX.ofCode (fld w 8 1)) (Reg.ofCode (fld w 0 5)))⟩,
  ⟨0xF7E0, 0x8020, 1, fun w _ => (RN.ofCode (fld w 0 3)).map fun n => .mpyYInd n (PostMod.ofCode (fld w 3 2))⟩,
  ⟨0xF7E0, 0x8040, 1, fun w _ => some (.mpyYReg (Reg.ofCode (fld w 0 5)))⟩,
  ⟨0xF780, 0xD000, 1, fun w _ => some (.mpyDual (RJ.ofCode (fld w 2 1)) (PostMod.ofCode (fld w 5 2)) (RI.ofCode (fld w 0 2)) (PostMod.ofCode (fld w 3 2)))⟩,
  ⟨0xF7E0, 0x8000, 2, fun w v => (RN.ofCode (fld w 0 3)).map fun n => .mpyLong n (PostMod.ofCode (fld w 3 2)) v⟩,
  ⟨0xF7E0, 0x8120, 1, fun w _ => (RN.ofCode (fld w 0 3)).map fun n => .mpysuYInd n (PostMod.ofCode (fld w 3 2))⟩,
  ⟨0xF7E0, 0x8140, 1, fun w _ => some (.mpysuYReg (Reg.ofCode (fld w 0 5)))⟩,
  ⟨0xF780, 0xD100, 1, fun w _ => some (.mpysuDual (RJ.ofCode (fld w 2 1)) (PostMod.ofCode (fld w 5 2)) (RI.ofCode (fld w 0 2)) (PostMod.ofCode (fld w 3 2)))⟩,
  ⟨0xF7E0, 0x8100, 2, fun w v => (RN.ofCode (fld w 0 3)).map fun n => .mpysuLong n (PostMod.ofCode (fld w 3 2)) v⟩,
  ⟨0xF7E0, 0x8220, 1, fun w _ => (RN.ofCode (fld w 0 3)).map fun n => .macYInd (AX.ofCode (fld w 11 1)) n (PostMod.ofCode (fld w 3 2))⟩,
  ⟨0xF7E0, 0x8240, 1, fun w _ => some (.macYReg (AX.ofCode (fld w 11 1)) (Reg.ofCode (fld w 0 5)))⟩,
  ⟨0xF780, 0xD200, 1, fun w _ => some (.macDual (AX.ofCode (fld w 11 1)) (RJ.ofCode (fld w 2 1)) (PostMod.ofCode (fld w 5 2)) (RI.ofCode (fld w 0 2)) (PostMod.ofCode (fld w 3 2)))⟩,
  ⟨0xF7E0, 0x8200, 2, fun w v => (RN.ofCode (fld w 0 3)).map fun n => .macLong (AX.ofCode (fld w 11 1)) n (PostMod.ofCode (fld w 3 2)) v⟩,
  ⟨0xF7E0, 0x8320, 1, fun w _ => (RN.ofCode (fld w 0 3)).map fun n => .macusYInd (AX.ofCode (fld w 11 1)) n (PostMod.ofCode (fld w 3 2))⟩,
  ⟨0xF7E0, 0x8340, 1, fun w _ => some (.macusYReg (AX.ofCode (fld w 11 1)) (Reg.ofCode (fld w 0 5)))⟩,
  ⟨0xF780, 0xD300, 1, fun w _ => some (.macusDual (AX.ofCode (fld w 11 1)) (RJ.ofCode (fld w 2 1)) (PostMod.ofCode (fld w 5 2)) (RI.ofCode (fld w 0 2)) (PostMod.ofCode (fld w 3 2)))⟩,
  ⟨0xF7E0, 0x8300, 2, fun w v => (RN.ofCode (fld w 0 3)).map fun n => .macusLong (AX.ofCode (fld w 11 1)) n (PostMod.ofCode (fld w 3 2)) v⟩,
  ⟨0xF7E0, 0x8420, 1, fun w _ => (RN.ofCode (fld w 0 3)).map fun n => .maaYInd (AX.ofCode (fld w 11 1)) n (PostMod.ofCode (fld w 3 2))⟩,
  ⟨0xF7E0, 0x8440, 1, fun w _ => some (.maaYReg (AX.ofCode (fld w 11 1)) (Reg.ofCode (fld w 0 5)))⟩,
  ⟨0xF780, 0xD400, 1, fun w _ => some (.maaDual (AX.ofCode (fld w 11 1)) (RJ.ofCode (fld w 2 1)) (PostMod.ofCode (fld w 5 2)) (RI.ofCode (fld w 0 2)) (PostMod.ofCode (fld w 3 2)))⟩,
  ⟨0xF7E0, 0x8400, 2, fun w v => (RN.ofCode (fld w 0 3)).map fun n => .maaLong (AX.ofCode (fld w 11 1)) n (PostMod.ofCode (fld w 3 2)) v⟩,
  ⟨0xF7E0, 0x8520, 1, fun w _ => (RN.ofCode (fld w 0 3)).map fun n => .macuuYInd (AX.ofCode (fld w 11 1)) n (PostMod.ofCode (fld w 3 2))⟩,
  ⟨0xF7E0, 0x8540, 1, fun w _ => some (.macuuYReg (AX.ofCode (fld w 11 1)) (Reg.ofCode (fld w 0 5)))⟩,
  ⟨0xF780, 0xD500, 1, fun w _ => some (.macuuDual (AX.ofCode (fld w 11 1)) (RJ.ofCode (fld w 2 1)) (PostMod.ofCode (fld w 5 2)) (RI.ofCode (fld w 0 2)) (PostMod.ofCode (fld w 3 2)))⟩,
  ⟨0xF7E0, 0x8500, 2, fun w v => (RN.ofCode (fld w 0 3)).map fun n => .macuuLong (AX.ofCode (fld w 11 1)) n (PostMod.ofCode (fld w 3 2)) v⟩,
  ⟨0xF7E0, 0x8620, 1, fun w _ => (RN.ofCode (fld w 0 3)).map fun n => .macsuYInd (AX.ofCode (fld w 11 1)) n (PostMod.ofCode (fld w 3 2))⟩,
  ⟨0xF7E0, 0x8640, 1, fun w _ => some (.macsuYReg (AX.ofCode (fld w 11 1)) (Reg.ofCode (fld w 0 5)))⟩,
  ⟨0xF780, 0xD600, 1, fun w _ => some (.macsuDual (AX.ofCode (fld w 11 1)) (RJ.ofCode (fld w 2 1)) (PostMod.ofCode (fld w 5 2)) (RI.ofCode (fld w 0 2)) (PostMod.ofCode (fld w 3 2)))⟩,
  ⟨0xF7E0, 0x8600, 2, fun w v => (RN.ofCode (fld w 0 3)).map fun n => .macsuLong (AX.ofCode (fld w 11 1)) n (PostMod.ofCode (fld w 3 2)) v⟩,
  ⟨0xF7E0, 0x8720, 1, fun w _ => (RN.ofCode (fld w 0 3)).map fun n => .maasuYInd (AX.ofCode (fld w 11 1)) n (PostMod.ofCode (fld w 3 2))⟩,
  ⟨0xF7E0, 0x8740, 1, fun w _ => some (.maasuYReg (AX.ofCode (fld w 11 1)) (Reg.ofCode (fld w 0 5)))⟩,
  ⟨0xF780, 0xD700, 1, fun w _ => some (.maasuDual (AX.ofCode (fld w 11 1)) (RJ.ofCode (fld w 2 1)) (PostMod.ofCode (fld w 5 2)) (RI.ofCode (fld w 0 2)) (PostMod.ofCode (fld w 3 2)))⟩]

/-- Rows of R151. -/
def mulRows2 : List Row := [
  ⟨0xF7E0, 0x8700, 2, fun w v => (RN.ofCode (fld w 0 3)).map fun n => .maasuLong (AX.ofCode (fld w 11 1)) n (PostMod.ofCode (fld w 3 2)) v⟩,
  ⟨0xF700, 0xE000, 1, fun w _ => some (.mpyYDirect (fld w 0 8))⟩,
  ⟨0xF700, 0xE200, 1, fun w _ => some (.macYDirect (AX.ofCode (fld w 11 1)) (fld w 0 8))⟩,
  ⟨0xF700, 0xE400, 1, fun w _ => some (.maaYDirect (AX.ofCode (fld w 11 1)) (fld w 0 8))⟩,
  ⟨0xF700, 0xE600, 1, fun w _ => some (.macsuYDirect (AX.ofCode (fld w 11 1)) (fld w 0 8))⟩,
  ⟨0xFF00, 0x0800, 1, fun w _ => some (.mpyi (fld w 0 8))⟩,
  ⟨0xFEC0, 0x90C0, 2, fun w v => (RN.ofCode (fld w 0 3)).map fun n => .msuLong (AX.ofCode (fld w 8 1)) n (PostMod.ofCode (fld w 3 2)) v⟩,
  ⟨0xFE80, 0xD080, 1, fun w _ => some (.msuDual (AX.ofCode (fld w 8 1)) (RJ.ofCode (fld w 2 1)) (PostMod.ofCode (fld w 5 2)) (RI.ofCode (fld w 0 2)) (PostMod.ofCode (fld w 3 2)))⟩]

/-- Rows of R154. -/
def loopRows : List Row := [
  ⟨0xFF00, 0x0D00, 1, fun w _ => some (.repReg (Reg.ofCode (fld w 0 5)))⟩,
  ⟨0xFF00, 0x0C00, 1, fun w _ => some (.repShort (fld w 0 8))⟩,
  ⟨0xFF00, 0x5C00, 2, fun w v => some (.bkrepShort (fld w 0 8) v)⟩,
  ⟨0xFF00, 0x5D00, 2, fun w v => some (.bkrepReg (Reg.ofCode (fld w 0 5)) v)⟩,
  ⟨0xFFC0, 0xD3C0, 1, fun _ _ => some .breakLoop⟩]

/-- Rows of R154. -/
def branchRows : List Row := [
  ⟨0xFFC0, 0x4180, 2, fun w v => some (.br (Cond.ofCode (fld w 0 4)) v)⟩,
  ⟨0xF800, 0x5000, 1, fun w _ => some (.brr (fld w 4 7) (Cond.ofCode (fld w 0 4)))⟩,
  ⟨0xFFC0, 0x41C0, 2, fun w v => some (.call (Cond.ofCode (fld w 0 4)) v)⟩,
  ⟨0xF800, 0x1000, 1, fun w _ => some (.callr (fld w 4 7) (Cond.ofCode (fld w 0 4)))⟩,
  ⟨0xFE90, 0xD480, 1, fun w _ => match AX.ofCode (fld w 8 1) with | .a0 => some .callaA0 | .a1 => some .callaA1⟩,
  ⟨0xFFC0, 0x4580, 1, fun w _ => some (.ret (Cond.ofCode (fld w 0 4)))⟩,
  ⟨0xFFC0, 0xD780, 1, fun _ _ => some .retd⟩,
  ⟨0xFFC0, 0x45C0, 1, fun w _ => some (.reti (flagBit w 4) (Cond.ofCode (fld w 0 4)))⟩,
  ⟨0xFFD0, 0xD7C0, 1, fun _ _ => some .retid⟩,
  ⟨0xFF00, 0x0900, 1, fun w _ => some (.rets (fld w 0 8))⟩]

/-- Rows of R155. -/
def controlRows : List Row := [
  ⟨0xFFD0, 0xD380, 1, fun _ _ => some .cntxS⟩,
  ⟨0xFFD0, 0xD390, 1, fun _ _ => some .cntxR⟩,
  ⟨0xFFE0, 0x0000, 1, fun _ _ => some .nop⟩,
  ⟨0xFF80, 0x0080, 1, fun w _ => (RN.ofCode (fld w 0 3)).map fun n => .modr (flagBit w 5) n (PostMod.ofCode (fld w 3 2))⟩,
  ⟨0xFFC0, 0x4380, 1, fun _ _ => some .eint⟩,
  ⟨0xFFC0, 0x43C0, 1, fun _ _ => some .dint⟩,
  ⟨0xFFE0, 0x0020, 1, fun _ _ => some .trap⟩,
  ⟨0xFF00, 0x0400, 1, fun w _ => some (.loadPage (fld w 0 8))⟩,
  ⟨0xFE00, 0x0200, 1, fun w _ => some (.loadModi (fld w 0 9))⟩,
  ⟨0xFE00, 0x0A00, 1, fun w _ => some (.loadModj (fld w 0 9))⟩,
  ⟨0xFF80, 0xDB80, 1, fun w _ => some (.loadStepi (fld w 0 7))⟩,
  ⟨0xFF80, 0xDF80, 1, fun w _ => some (.loadStepj (fld w 0 7))⟩,
  ⟨0xFF80, 0x4D80, 1, fun w _ => some (.loadPs (fld w 0 2))⟩]

/-- The whole table (R150 to R155): no two rows match one word (R156, R157). -/
def rows : List Row :=
  moveRows1 ++ moveRows2 ++ aluRows1 ++ aluRows2 ++ aluRows3 ++ bmuRows ++ mulRows1 ++ mulRows2 ++ loopRows ++ branchRows ++ controlRows

/-- The row a first word has, if any. -/
def findRow (w : Nat) : List Row → Option Row
  | [] => none
  | r :: rest => bif Nat.beq (Nat.land w r.mask) r.bits then some r else findRow w rest

/-- Why a word is refused (R158, D1). -/
inductive DecodeError where
  /-- The first word matches no pattern. -/
  | noPattern
  /-- A pattern matches, and a register or option field holds a code that is not defined (R137, R149). -/
  | reservedField
  /-- A pattern matches, and the instruction's operand list excludes an operand (R159). -/
  | excludedOperand
  deriving DecidableEq, Repr

/-- The instruction whose first word is w and whose operand word, if it has one, is v; or why it is refused. -/
def decode (w v : Word) : Except DecodeError Instr :=
  match findRow w.toNat rows with
  | none => .error .noPattern
  | some r =>
    match r.parse w v with
    | none => .error .reservedField
    | some i => if i.wellFormed then .ok i else .error .excludedOperand

/-- How many words the instruction with first word w has (R162); 1 for a word with no pattern. -/
def wordLength (w : Word) : Nat :=
  match findRow w.toNat rows with
  | none => 1
  | some r => r.words

/-- The instruction whose bits, numbered as spec/opcode_table.json numbers them, are the low `nbits` bits of w. -/
def decodeTableWord (nbits w : Nat) : Option Instr :=
  let b := w % 2 ^ nbits
  match decode (BitVec.ofNat 16 b) (BitVec.ofNat 16 (b / 65536)) with
  | .ok i => some i
  | .error _ => none

/-- The first word of an instruction, ignored bits 0 (R130, R150 to R155). -/
def encodeFirst : Instr → Word
  | .movrIndPart d q m => 0x8864 ||| put 8 d.code ||| put 3 q.code ||| put 0 m.movrCode
  | .orDirect d a => 0xA000 ||| put 8 d.code ||| put 0 a
  | .orInd d n m => 0x8080 ||| put 8 d.code ||| put 0 n.code ||| put 3 m.code
  | .orReg d r => 0x80A0 ||| put 8 d.code ||| put 0 r.code
  | .andDirect d a => 0xA200 ||| put 8 d.code ||| put 0 a
  | .andInd d n m => 0x8280 ||| put 8 d.code ||| put 0 n.code ||| put 3 m.code
  | .andReg d r => 0x82A0 ||| put 8 d.code ||| put 0 r.code
  | .xorDirect d a => 0xA400 ||| put 8 d.code ||| put 0 a
  | .xorInd d n m => 0x8480 ||| put 8 d.code ||| put 0 n.code ||| put 3 m.code
  | .xorReg d r => 0x84A0 ||| put 8 d.code ||| put 0 r.code
  | .addDirect d a => 0xA600 ||| put 8 d.code ||| put 0 a
  | .addInd d n m => 0x8680 ||| put 8 d.code ||| put 0 n.code ||| put 3 m.code
  | .addReg d r => 0x86A0 ||| put 8 d.code ||| put 0 r.code
  | .tst0Direct d a => 0xA800 ||| put 8 d.code ||| put 0 a
  | .tst0Ind d n m => 0x8880 ||| put 8 d.code ||| put 0 n.code ||| put 3 m.code
  | .tst0Reg d r => 0x88A0 ||| put 8 d.code ||| put 0 r.code
  | .tst1Direct d a => 0xAA00 ||| put 8 d.code ||| put 0 a
  | .tst1Ind d n m => 0x8A80 ||| put 8 d.code ||| put 0 n.code ||| put 3 m.code
  | .tst1Reg d r => 0x8AA0 ||| put 8 d.code ||| put 0 r.code
  | .cmpDirect d a => 0xAC00 ||| put 8 d.code ||| put 0 a
  | .cmpInd d n m => 0x8C80 ||| put 8 d.code ||| put 0 n.code ||| put 3 m.code
  | .cmpReg d r => 0x8CA0 ||| put 8 d.code ||| put 0 r.code
  | .subDirect d a => 0xAE00 ||| put 8 d.code ||| put 0 a
  | .subInd d n m => 0x8E80 ||| put 8 d.code ||| put 0 n.code ||| put 3 m.code
  | .subReg d r => 0x8EA0 ||| put 8 d.code ||| put 0 r.code
  | .msuYDirect d a => 0xB000 ||| put 8 d.code ||| put 0 a
  | .msuYInd d n m => 0x9080 ||| put 8 d.code ||| put 0 n.code ||| put 3 m.code
  | .msuYReg d r => 0x90A0 ||| put 8 d.code ||| put 0 r.code
  | .addhDirect d a => 0xB200 ||| put 8 d.code ||| put 0 a
  | .addhInd d n m => 0x9280 ||| put 8 d.code ||| put 0 n.code ||| put 3 m.code
  | .addhReg d r => 0x92A0 ||| put 8 d.code ||| put 0 r.code
  | .addlDirect d a => 0xB400 ||| put 8 d.code ||| put 0 a
  | .addlInd d n m => 0x9480 ||| put 8 d.code ||| put 0 n.code ||| put 3 m.code
  | .addlReg d r => 0x94A0 ||| put 8 d.code ||| put 0 r.code
  | .subhDirect d a => 0xB600 ||| put 8 d.code ||| put 0 a
  | .subhInd d n m => 0x9680 ||| put 8 d.code ||| put 0 n.code ||| put 3 m.code
  | .subhReg d r => 0x96A0 ||| put 8 d.code ||| put 0 r.code
  | .sublDirect d a => 0xB800 ||| put 8 d.code ||| put 0 a
  | .sublInd d n m => 0x9880 ||| put 8 d.code ||| put 0 n.code ||| put 3 m.code
  | .sublReg d r => 0x98A0 ||| put 8 d.code ||| put 0 r.code
  | .sqrDirect a => 0xBA00 ||| put 0 a
  | .sqrInd n m => 0x9A80 ||| put 0 n.code ||| put 3 m.code
  | .sqrReg r => 0x9AA0 ||| put 0 r.code
  | .sqraDirect d a => 0xBC00 ||| put 8 d.code ||| put 0 a
  | .sqraInd d n m => 0x9C80 ||| put 8 d.code ||| put 0 n.code ||| put 3 m.code
  | .sqraReg d r => 0x9CA0 ||| put 8 d.code ||| put 0 r.code
  | .cmpuDirect d a => 0xBE00 ||| put 8 d.code ||| put 0 a
  | .cmpuInd d n m => 0x9E80 ||| put 8 d.code ||| put 0 n.code ||| put 3 m.code
  | .cmpuReg d r => 0x9EA0 ||| put 8 d.code ||| put 0 r.code
  | .orShort d v => 0xC000 ||| put 8 d.code ||| put 0 v
  | .orLong d _ => 0x80C0 ||| put 8 d.code
  | .orIdx7 d o => 0x4000 ||| put 8 d.code ||| put 0 o
  | .orIdx16 d _ => 0xD4D8 ||| put 8 d.code
  | .orDirLong d _ => 0xD4F8 ||| put 8 d.code
  | .andShort d v => 0xC200 ||| put 8 d.code ||| put 0 v
  | .andLong d _ => 0x82C0 ||| put 8 d.code
  | .andIdx7 d o => 0x4200 ||| put 8 d.code ||| put 0 o
  | .andIdx16 d _ => 0xD4D9 ||| put 8 d.code
  | .andDirLong d _ => 0xD4F9 ||| put 8 d.code
  | .xorShort d v => 0xC400 ||| put 8 d.code ||| put 0 v
  | .xorLong d _ => 0x84C0 ||| put 8 d.code
  | .xorIdx7 d o => 0x4400 ||| put 8 d.code ||| put 0 o
  | .xorIdx16 d _ => 0xD4DA ||| put 8 d.code
  | .xorDirLong d _ => 0xD4FA ||| put 8 d.code
  | .addShort d v => 0xC600 ||| put 8 d.code ||| put 0 v
  | .addLong d _ => 0x86C0 ||| put 8 d.code
  | .addIdx7 d o => 0x4600 ||| put 8 d.code ||| put 0 o
  | .addIdx16 d _ => 0xD4DB ||| put 8 d.code
  | .addDirLong d _ => 0xD4FB ||| put 8 d.code
  | .cmpShort d v => 0xCC00 ||| put 8 d.code ||| put 0 v
  | .cmpLong d _ => 0x8CC0 ||| put 8 d.code
  | .cmpIdx7 d o => 0x4C00 ||| put 8 d.code ||| put 0 o
  | .cmpIdx16 d _ => 0xD4DE ||| put 8 d.code
  | .cmpDirLong d _ => 0xD4FE ||| put 8 d.code
  | .subShort d v => 0xCE00 ||| put 8 d.code ||| put 0 v
  | .subLong d _ => 0x8EC0 ||| put 8 d.code
  | .subIdx7 d o => 0x4E00 ||| put 8 d.code ||| put 0 o
  | .subIdx16 d _ => 0xD4DF ||| put 8 d.code
  | .subDirLong d _ => 0xD4FF ||| put 8 d.code
  | .shrA d c => 0x6700 ||| put 12 d.code ||| put 0 c.code
  | .shr4A d c => 0x6710 ||| put 12 d.code ||| put 0 c.code
  | .shlA d c => 0x6720 ||| put 12 d.code ||| put 0 c.code
  | .shl4A d c => 0x6730 ||| put 12 d.code ||| put 0 c.code
  | .rorA d c => 0x6740 ||| put 12 d.code ||| put 0 c.code
  | .rolA d c => 0x6750 ||| put 12 d.code ||| put 0 c.code
  | .clrA d c => 0x6760 ||| put 12 d.code ||| put 0 c.code
  | .notA d c => 0x6780 ||| put 12 d.code ||| put 0 c.code
  | .negA d c => 0x6790 ||| put 12 d.code ||| put 0 c.code
  | .rndA d c => 0x67A0 ||| put 12 d.code ||| put 0 c.code
  | .pacrA d c => 0x67B0 ||| put 12 d.code ||| put 0 c.code
  | .clrrA d c => 0x67C0 ||| put 12 d.code ||| put 0 c.code
  | .incA d c => 0x67D0 ||| put 12 d.code ||| put 0 c.code
  | .decA d c => 0x67E0 ||| put 12 d.code ||| put 0 c.code
  | .copyA d c => 0x67F0 ||| put 12 d.code ||| put 0 c.code
  | .norm d n m => 0x94C0 ||| put 8 d.code ||| put 0 n.code ||| put 3 m.code
  | .divs d a => 0x0E00 ||| put 8 d.code ||| put 0 a
  | .setInd n m _ => 0x80E0 ||| put 0 n.code ||| put 3 m.code
  | .setReg r _ => 0x81E0 ||| put 0 r.code
  | .setDirect a _ => 0xE100 ||| put 0 a
  | .rstInd n m _ => 0x82E0 ||| put 0 n.code ||| put 3 m.code
  | .rstReg r _ => 0x83E0 ||| put 0 r.code
  | .rstDirect a _ => 0xE300 ||| put 0 a
  | .chngInd n m _ => 0x84E0 ||| put 0 n.code ||| put 3 m.code
  | .chngReg r _ => 0x85E0 ||| put 0 r.code
  | .chngDirect a _ => 0xE500 ||| put 0 a
  | .addvInd n m _ => 0x86E0 ||| put 0 n.code ||| put 3 m.code
  | .addvReg r _ => 0x87E0 ||| put 0 r.code
  | .addvDirect a _ => 0xE700 ||| put 0 a
  | .tst0LongInd n m _ => 0x88E0 ||| put 0 n.code ||| put 3 m.code
  | .tst0LongReg r _ => 0x89E0 ||| put 0 r.code
  | .tst0LongDirect a _ => 0xE900 ||| put 0 a
  | .tst1LongInd n m _ => 0x8AE0 ||| put 0 n.code ||| put 3 m.code
  | .tst1LongReg r _ => 0x8BE0 ||| put 0 r.code
  | .tst1LongDirect a _ => 0xEB00 ||| put 0 a
  | .cmpvInd n m _ => 0x8CE0 ||| put 0 n.code ||| put 3 m.code
  | .cmpvReg r _ => 0x8DE0 ||| put 0 r.code
  | .cmpvDirect a _ => 0xED00 ||| put 0 a
  | .subvInd n m _ => 0x8EE0 ||| put 0 n.code ||| put 3 m.code
  | .subvReg r _ => 0x8FE0 ||| put 0 r.code
  | .subvDirect a _ => 0xEF00 ||| put 0 a
  | .maxd c d m => 0x8060 ||| put 9 c.code ||| put 8 d.code ||| put 3 m.code
  | .max c d m => 0x8460 ||| put 9 c.code ||| put 8 d.code ||| put 3 m.code
  | .min c d m => 0x8860 ||| put 9 c.code ||| put 8 d.code ||| put 3 m.code
  | .mpyYInd n m => 0x8020 ||| put 0 n.code ||| put 3 m.code
  | .mpyYReg r => 0x8040 ||| put 0 r.code
  | .mpyDual j jm i im => 0xD000 ||| put 2 j.code ||| put 5 jm.code ||| put 0 i.code ||| put 3 im.code
  | .mpyLong n m _ => 0x8000 ||| put 0 n.code ||| put 3 m.code
  | .mpysuYInd n m => 0x8120 ||| put 0 n.code ||| put 3 m.code
  | .mpysuYReg r => 0x8140 ||| put 0 r.code
  | .mpysuDual j jm i im => 0xD100 ||| put 2 j.code ||| put 5 jm.code ||| put 0 i.code ||| put 3 im.code
  | .mpysuLong n m _ => 0x8100 ||| put 0 n.code ||| put 3 m.code
  | .macYInd d n m => 0x8220 ||| put 11 d.code ||| put 0 n.code ||| put 3 m.code
  | .macYReg d r => 0x8240 ||| put 11 d.code ||| put 0 r.code
  | .macDual d j jm i im => 0xD200 ||| put 11 d.code ||| put 2 j.code ||| put 5 jm.code ||| put 0 i.code ||| put 3 im.code
  | .macLong d n m _ => 0x8200 ||| put 11 d.code ||| put 0 n.code ||| put 3 m.code
  | .macusYInd d n m => 0x8320 ||| put 11 d.code ||| put 0 n.code ||| put 3 m.code
  | .macusYReg d r => 0x8340 ||| put 11 d.code ||| put 0 r.code
  | .macusDual d j jm i im => 0xD300 ||| put 11 d.code ||| put 2 j.code ||| put 5 jm.code ||| put 0 i.code ||| put 3 im.code
  | .macusLong d n m _ => 0x8300 ||| put 11 d.code ||| put 0 n.code ||| put 3 m.code
  | .maaYInd d n m => 0x8420 ||| put 11 d.code ||| put 0 n.code ||| put 3 m.code
  | .maaYReg d r => 0x8440 ||| put 11 d.code ||| put 0 r.code
  | .maaDual d j jm i im => 0xD400 ||| put 11 d.code ||| put 2 j.code ||| put 5 jm.code ||| put 0 i.code ||| put 3 im.code
  | .maaLong d n m _ => 0x8400 ||| put 11 d.code ||| put 0 n.code ||| put 3 m.code
  | .macuuYInd d n m => 0x8520 ||| put 11 d.code ||| put 0 n.code ||| put 3 m.code
  | .macuuYReg d r => 0x8540 ||| put 11 d.code ||| put 0 r.code
  | .macuuDual d j jm i im => 0xD500 ||| put 11 d.code ||| put 2 j.code ||| put 5 jm.code ||| put 0 i.code ||| put 3 im.code
  | .macuuLong d n m _ => 0x8500 ||| put 11 d.code ||| put 0 n.code ||| put 3 m.code
  | .macsuYInd d n m => 0x8620 ||| put 11 d.code ||| put 0 n.code ||| put 3 m.code
  | .macsuYReg d r => 0x8640 ||| put 11 d.code ||| put 0 r.code
  | .macsuDual d j jm i im => 0xD600 ||| put 11 d.code ||| put 2 j.code ||| put 5 jm.code ||| put 0 i.code ||| put 3 im.code
  | .macsuLong d n m _ => 0x8600 ||| put 11 d.code ||| put 0 n.code ||| put 3 m.code
  | .maasuYInd d n m => 0x8720 ||| put 11 d.code ||| put 0 n.code ||| put 3 m.code
  | .maasuYReg d r => 0x8740 ||| put 11 d.code ||| put 0 r.code
  | .maasuDual d j jm i im => 0xD700 ||| put 11 d.code ||| put 2 j.code ||| put 5 jm.code ||| put 0 i.code ||| put 3 im.code
  | .maasuLong d n m _ => 0x8700 ||| put 11 d.code ||| put 0 n.code ||| put 3 m.code
  | .mpyYDirect a => 0xE000 ||| put 0 a
  | .macYDirect d a => 0xE200 ||| put 11 d.code ||| put 0 a
  | .maaYDirect d a => 0xE400 ||| put 11 d.code ||| put 0 a
  | .macsuYDirect d a => 0xE600 ||| put 11 d.code ||| put 0 a
  | .mpyi v => 0x0800 ||| put 0 v
  | .msuLong d n m _ => 0x90C0 ||| put 8 d.code ||| put 0 n.code ||| put 3 m.code
  | .msuDual d j jm i im => 0xD080 ||| put 8 d.code ||| put 2 j.code ||| put 5 jm.code ||| put 0 i.code ||| put 3 im.code
  | .tstbInd k n m => 0x9020 ||| put 8 k ||| put 0 n.code ||| put 3 m.code
  | .tstbReg k r => 0x9000 ||| put 8 k ||| put 0 r.code
  | .tstbDirect k a => 0xF000 ||| put 8 k ||| put 0 a
  | .shfc src d c => 0xD280 ||| put 10 src.code ||| put 5 d.code ||| put 0 c.code
  | .shfi src d k => 0x9240 ||| put 10 src.code ||| put 7 d.code ||| put 0 k
  | .shrB d c => 0x6F00 ||| put 12 d.code ||| put 0 c.code
  | .shr4B d c => 0x6F10 ||| put 12 d.code ||| put 0 c.code
  | .shlB d c => 0x6F20 ||| put 12 d.code ||| put 0 c.code
  | .shl4B d c => 0x6F30 ||| put 12 d.code ||| put 0 c.code
  | .rorB d c => 0x6F40 ||| put 12 d.code ||| put 0 c.code
  | .rolB d c => 0x6F50 ||| put 12 d.code ||| put 0 c.code
  | .clrB d c => 0x6F60 ||| put 12 d.code ||| put 0 c.code
  | .expIndA d n m => 0x9840 ||| put 8 d.code ||| put 0 n.code ||| put 3 m.code
  | .expRegA d r => 0x9040 ||| put 8 d.code ||| put 0 r.code
  | .expIndSv n m => 0x9C40 ||| put 0 n.code ||| put 3 m.code
  | .expRegSv r => 0x9440 ||| put 0 r.code
  | .movRegReg d r => 0x5800 ||| put 5 d.code ||| put 0 r.code
  | .movAccAcc src d => 0xD290 ||| put 10 src.code ||| put 5 d.code
  | .movRegB b r => 0x5EC0 ||| put 5 b.code ||| put 0 r.code
  | .movRegMixp r => 0x5E80 ||| put 0 r.code
  | .movRegInd r n m => 0x1800 ||| put 5 r.code ||| put 0 n.code ||| put 3 m.code
  | .movMixpReg r => 0x47C0 ||| put 0 r.code
  | .movIcrAcc d => 0xD492 ||| put 5 d.code
  | .movXAcc d => 0xD493 ||| put 5 d.code
  | .movIndReg r n m => 0x1C00 ||| put 5 r.code ||| put 0 n.code ||| put 3 m.code
  | .movIndB b n m => 0x98C0 ||| put 8 b.code ||| put 0 n.code ||| put 3 m.code
  | .movSpReg r => 0x47E0 ||| put 0 r.code
  | .movRnDirect n a => 0x2000 ||| put 9 n.code ||| put 0 a
  | .movPartDirect q a => 0x3000 ||| put 9 q.code ||| put 0 a
  | .movDirectRn n a => 0x6000 ||| put 10 n.code ||| put 0 a
  | .movDirectAcc d a => 0x6100 ||| put 11 d.code ||| put 0 a
  | .movDirectPart q a => 0x6200 ||| put 10 q.code ||| put 0 a
  | .movDirectHighEu d a => 0x6500 ||| put 12 d.code ||| put 0 a
  | .movDirectSv a => 0x6D00 ||| put 0 a
  | .movSvDirect a => 0x7D00 ||| put 0 a
  | .movDirLongA d _ => 0xD4B8 ||| put 8 d.code
  | .movLowDirLong d _ => 0xD4BC ||| put 8 d.code
  | .movLongReg r _ => 0x5E00 ||| put 0 r.code
  | .movLongB b _ => 0x5E20 ||| put 8 b.code
  | .movShortLow d v => 0x2100 ||| put 12 d.code ||| put 0 v
  | .movShortHigh d v => 0x2500 ||| put 12 d.code ||| put 0 v
  | .movShortRn n v => 0x2300 ||| put 10 n.code ||| put 0 v
  | .movShortExt e v => 0x2900 ||| put 12 (e.code.extractLsb' 1 1) ||| put 10 (e.code.extractLsb' 0 1) ||| put 0 v
  | .movShortSv v => 0x0500 ||| put 0 v
  | .movRegIcr r => 0x4FC0 ||| put 0 r.code
  | .movImmIcr v => 0x4F80 ||| put 0 v
  | .movIdx7A d o => 0xD880 ||| put 8 d.code ||| put 0 o
  | .movLowIdx7 d o => 0xDC80 ||| put 8 d.code ||| put 0 o
  | .movIdx16A d _ => 0xD498 ||| put 8 d.code
  | .movLowIdx16 d _ => 0xD49C ||| put 8 d.code
  | .movpLowReg d r => 0x0040 ||| put 5 d.code ||| put 0 r.code
  | .movpIndInd i im n m => 0x0600 ||| put 5 i.code ||| put 7 im.code ||| put 0 n.code ||| put 3 m.code
  | .movsReg d r => 0x0100 ||| put 5 d.code ||| put 0 r.code
  | .movsInd d n m => 0x0180 ||| put 5 d.code ||| put 0 n.code ||| put 3 m.code
  | .movsDirect d a => 0x6300 ||| put 11 d.code ||| put 0 a
  | .movsi n d k => 0x4080 ||| put 9 n.code ||| put 5 d.code ||| put 0 k
  | .movrReg d r => 0x9CC0 ||| put 8 d.code ||| put 0 r.code
  | .movrInd d n m => 0x9CE0 ||| put 8 d.code ||| put 0 n.code ||| put 3 m.code
  | .pushReg r => 0x5E40 ||| put 0 r.code
  | .pushLong _ => 0x5F40
  | .popReg r => 0x5E60 ||| put 0 r.code
  | .swap o => 0x4980 ||| put 0 o.code
  | .banke k => 0x4B80 ||| put 0 k
  | .movd i im j jm => 0x5F80 ||| put 0 i.code ||| put 3 im.code ||| put 2 j.code ||| put 5 jm.code
  | .repReg r => 0x0D00 ||| put 0 r.code
  | .repShort v => 0x0C00 ||| put 0 v
  | .bkrepShort v _ => 0x5C00 ||| put 0 v
  | .bkrepReg r _ => 0x5D00 ||| put 0 r.code
  | .br c _ => 0x4180 ||| put 0 c.code
  | .brr o c => 0x5000 ||| put 4 o ||| put 0 c.code
  | .call c _ => 0x41C0 ||| put 0 c.code
  | .callr o c => 0x1000 ||| put 4 o ||| put 0 c.code
  | .ret c => 0x4580 ||| put 0 c.code
  | .reti ctx c => 0x45C0 ||| put 4 (BitVec.ofBool ctx) ||| put 0 c.code
  | .rets v => 0x0900 ||| put 0 v
  | .modr dmod n m => 0x0080 ||| put 5 (BitVec.ofBool dmod) ||| put 0 n.code ||| put 3 m.code
  | .loadPage v => 0x0400 ||| put 0 v
  | .loadModi v => 0x0200 ||| put 0 v
  | .loadModj v => 0x0A00 ||| put 0 v
  | .loadStepi v => 0xDB80 ||| put 0 v
  | .loadStepj v => 0xDF80 ||| put 0 v
  | .loadPs v => 0x4D80 ||| put 0 v
  | .limA0 => 0x49C0 ||| put 4 LimOp.a0.code
  | .limA0A1 => 0x49C0 ||| put 4 LimOp.a0a1.code
  | .limA1A0 => 0x49C0 ||| put 4 LimOp.a1a0.code
  | .limA1 => 0x49C0 ||| put 4 LimOp.a1.code
  | .expB0A0 => 0x9060 ||| put 8 AX.a0.code ||| put 0 BX.b0.code
  | .expB1A0 => 0x9060 ||| put 8 AX.a0.code ||| put 0 BX.b1.code
  | .expB0A1 => 0x9060 ||| put 8 AX.a1.code ||| put 0 BX.b0.code
  | .expB1A1 => 0x9060 ||| put 8 AX.a1.code ||| put 0 BX.b1.code
  | .expB0Sv => 0x9460 ||| put 0 BX.b0.code
  | .expB1Sv => 0x9460 ||| put 0 BX.b1.code
  | .movB0lDvm => 0xD298 ||| put 10 AB.b0.code
  | .movB1lDvm => 0xD298 ||| put 10 AB.b1.code
  | .movA0lDvm => 0xD298 ||| put 10 AB.a0.code
  | .movA1lDvm => 0xD298 ||| put 10 AB.a1.code
  | .movB0lX => 0xD2D8 ||| put 10 AB.b0.code
  | .movB1lX => 0xD2D8 ||| put 10 AB.b1.code
  | .movA0lX => 0xD2D8 ||| put 10 AB.a0.code
  | .movA1lX => 0xD2D8 ||| put 10 AB.a1.code
  | .movRepcB0 => 0xD490 ||| put 5 AB.b0.code
  | .movRepcB1 => 0xD490 ||| put 5 AB.b1.code
  | .movRepcA0 => 0xD490 ||| put 5 AB.a0.code
  | .movRepcA1 => 0xD490 ||| put 5 AB.a1.code
  | .movDvmB0 => 0xD491 ||| put 5 AB.b0.code
  | .movDvmB1 => 0xD491 ||| put 5 AB.b1.code
  | .movDvmA0 => 0xD491 ||| put 5 AB.a0.code
  | .movDvmA1 => 0xD491 ||| put 5 AB.a1.code
  | .breakLoop => 0xD3C0
  | .callaA0 => 0xD480 ||| put 8 AX.a0.code
  | .callaA1 => 0xD480 ||| put 8 AX.a1.code
  | .retd => 0xD780
  | .retid => 0xD7C0
  | .cntxS => 0xD380
  | .cntxR => 0xD390
  | .nop => 0x0000
  | .eint => 0x4380
  | .dint => 0x43C0
  | .trap => 0x0020

/-- The operand word of a two-word instruction (R131); none for a one-word instruction. -/
def encodeSecond : Instr → Option Word
  | .orLong _ v => some v
  | .orIdx16 _ v => some v
  | .orDirLong _ v => some v
  | .andLong _ v => some v
  | .andIdx16 _ v => some v
  | .andDirLong _ v => some v
  | .xorLong _ v => some v
  | .xorIdx16 _ v => some v
  | .xorDirLong _ v => some v
  | .addLong _ v => some v
  | .addIdx16 _ v => some v
  | .addDirLong _ v => some v
  | .cmpLong _ v => some v
  | .cmpIdx16 _ v => some v
  | .cmpDirLong _ v => some v
  | .subLong _ v => some v
  | .subIdx16 _ v => some v
  | .subDirLong _ v => some v
  | .setInd _ _ v => some v
  | .setReg _ v => some v
  | .setDirect _ v => some v
  | .rstInd _ _ v => some v
  | .rstReg _ v => some v
  | .rstDirect _ v => some v
  | .chngInd _ _ v => some v
  | .chngReg _ v => some v
  | .chngDirect _ v => some v
  | .addvInd _ _ v => some v
  | .addvReg _ v => some v
  | .addvDirect _ v => some v
  | .tst0LongInd _ _ v => some v
  | .tst0LongReg _ v => some v
  | .tst0LongDirect _ v => some v
  | .tst1LongInd _ _ v => some v
  | .tst1LongReg _ v => some v
  | .tst1LongDirect _ v => some v
  | .cmpvInd _ _ v => some v
  | .cmpvReg _ v => some v
  | .cmpvDirect _ v => some v
  | .subvInd _ _ v => some v
  | .subvReg _ v => some v
  | .subvDirect _ v => some v
  | .mpyLong _ _ v => some v
  | .mpysuLong _ _ v => some v
  | .macLong _ _ _ v => some v
  | .macusLong _ _ _ v => some v
  | .maaLong _ _ _ v => some v
  | .macuuLong _ _ _ v => some v
  | .macsuLong _ _ _ v => some v
  | .maasuLong _ _ _ v => some v
  | .msuLong _ _ _ v => some v
  | .movDirLongA _ v => some v
  | .movLowDirLong _ v => some v
  | .movLongReg _ v => some v
  | .movLongB _ v => some v
  | .movIdx16A _ v => some v
  | .movLowIdx16 _ v => some v
  | .pushLong v => some v
  | .bkrepShort _ w2 => some w2
  | .bkrepReg _ w2 => some w2
  | .br _ v => some v
  | .call _ v => some v
  | .movrIndPart _ _ _ | .orDirect _ _ | .orInd _ _ _ | .orReg _ _
  | .andDirect _ _ | .andInd _ _ _ | .andReg _ _ | .xorDirect _ _
  | .xorInd _ _ _ | .xorReg _ _ | .addDirect _ _ | .addInd _ _ _
  | .addReg _ _ | .tst0Direct _ _ | .tst0Ind _ _ _ | .tst0Reg _ _
  | .tst1Direct _ _ | .tst1Ind _ _ _ | .tst1Reg _ _ | .cmpDirect _ _
  | .cmpInd _ _ _ | .cmpReg _ _ | .subDirect _ _ | .subInd _ _ _
  | .subReg _ _ | .msuYDirect _ _ | .msuYInd _ _ _ | .msuYReg _ _
  | .addhDirect _ _ | .addhInd _ _ _ | .addhReg _ _ | .addlDirect _ _
  | .addlInd _ _ _ | .addlReg _ _ | .subhDirect _ _ | .subhInd _ _ _
  | .subhReg _ _ | .sublDirect _ _ | .sublInd _ _ _ | .sublReg _ _
  | .sqrDirect _ | .sqrInd _ _ | .sqrReg _ | .sqraDirect _ _
  | .sqraInd _ _ _ | .sqraReg _ _ | .cmpuDirect _ _ | .cmpuInd _ _ _
  | .cmpuReg _ _ | .orShort _ _ | .orIdx7 _ _ | .andShort _ _
  | .andIdx7 _ _ | .xorShort _ _ | .xorIdx7 _ _ | .addShort _ _
  | .addIdx7 _ _ | .cmpShort _ _ | .cmpIdx7 _ _ | .subShort _ _
  | .subIdx7 _ _ | .shrA _ _ | .shr4A _ _ | .shlA _ _
  | .shl4A _ _ | .rorA _ _ | .rolA _ _ | .clrA _ _
  | .notA _ _ | .negA _ _ | .rndA _ _ | .pacrA _ _
  | .clrrA _ _ | .incA _ _ | .decA _ _ | .copyA _ _
  | .norm _ _ _ | .divs _ _ | .maxd _ _ _ | .max _ _ _
  | .min _ _ _ | .mpyYInd _ _ | .mpyYReg _ | .mpyDual _ _ _ _
  | .mpysuYInd _ _ | .mpysuYReg _ | .mpysuDual _ _ _ _ | .macYInd _ _ _
  | .macYReg _ _ | .macDual _ _ _ _ _ | .macusYInd _ _ _ | .macusYReg _ _
  | .macusDual _ _ _ _ _ | .maaYInd _ _ _ | .maaYReg _ _ | .maaDual _ _ _ _ _
  | .macuuYInd _ _ _ | .macuuYReg _ _ | .macuuDual _ _ _ _ _ | .macsuYInd _ _ _
  | .macsuYReg _ _ | .macsuDual _ _ _ _ _ | .maasuYInd _ _ _ | .maasuYReg _ _
  | .maasuDual _ _ _ _ _ | .mpyYDirect _ | .macYDirect _ _ | .maaYDirect _ _
  | .macsuYDirect _ _ | .mpyi _ | .msuDual _ _ _ _ _ | .tstbInd _ _ _
  | .tstbReg _ _ | .tstbDirect _ _ | .shfc _ _ _ | .shfi _ _ _
  | .shrB _ _ | .shr4B _ _ | .shlB _ _ | .shl4B _ _
  | .rorB _ _ | .rolB _ _ | .clrB _ _ | .expIndA _ _ _
  | .expRegA _ _ | .expIndSv _ _ | .expRegSv _ | .movRegReg _ _
  | .movAccAcc _ _ | .movRegB _ _ | .movRegMixp _ | .movRegInd _ _ _
  | .movMixpReg _ | .movIcrAcc _ | .movXAcc _ | .movIndReg _ _ _
  | .movIndB _ _ _ | .movSpReg _ | .movRnDirect _ _ | .movPartDirect _ _
  | .movDirectRn _ _ | .movDirectAcc _ _ | .movDirectPart _ _ | .movDirectHighEu _ _
  | .movDirectSv _ | .movSvDirect _ | .movShortLow _ _ | .movShortHigh _ _
  | .movShortRn _ _ | .movShortExt _ _ | .movShortSv _ | .movRegIcr _
  | .movImmIcr _ | .movIdx7A _ _ | .movLowIdx7 _ _ | .movpLowReg _ _
  | .movpIndInd _ _ _ _ | .movsReg _ _ | .movsInd _ _ _ | .movsDirect _ _
  | .movsi _ _ _ | .movrReg _ _ | .movrInd _ _ _ | .pushReg _
  | .popReg _ | .swap _ | .banke _ | .movd _ _ _ _
  | .repReg _ | .repShort _ | .brr _ _ | .callr _ _
  | .ret _ | .reti _ _ | .rets _ | .modr _ _ _
  | .loadPage _ | .loadModi _ | .loadModj _ | .loadStepi _
  | .loadStepj _ | .loadPs _ | .limA0 | .limA0A1
  | .limA1A0 | .limA1 | .expB0A0 | .expB1A0
  | .expB0A1 | .expB1A1 | .expB0Sv | .expB1Sv
  | .movB0lDvm | .movB1lDvm | .movA0lDvm | .movA1lDvm
  | .movB0lX | .movB1lX | .movA0lX | .movA1lX
  | .movRepcB0 | .movRepcB1 | .movRepcA0 | .movRepcA1
  | .movDvmB0 | .movDvmB1 | .movDvmA0 | .movDvmA1
  | .breakLoop | .callaA0 | .callaA1 | .retd
  | .retid | .cntxS | .cntxR | .nop
  | .eint | .dint | .trap => none

/-- The words of an instruction, one or two (R130, R131). -/
def encode (i : Instr) : List Word := encodeFirst i :: (encodeSecond i).toList

end Sys2Proof
end

