-- ==== Sys2Proof/Machine/Hazards.lean ====
section
/-! DEFINITION. What the sequencing rules read of an instruction (its length, cycles, register source and destination,
kind), and the forbidden sequences and placements of 70_reset_and_hazards.md R620 to R627, 44_loop.md R402 and R407,
45_branch.md R442, each refused by its name. -/

namespace Sys2Proof.Machine

/-- How an instruction writes a register named by a code: R522 and R622 to R624 tell the ways apart. -/
inductive DestVia where
  /-- `mov soperand, REG`, soperand anything but a ##long immediate. -/
  | mov
  /-- `mov ##long immediate, REG`. -/
  | movLong
  /-- `movp (aXl), REG`. -/
  | movp
  /-- `pop REG`. -/
  | pop
  /-- `set`, `rst`, `chng`, `addv`, `subv` on a register. -/
  | rmw
  deriving DecidableEq, Repr

/-- The kinds of instruction that the sequencing rules name. -/
inductive Kind where
  | plain
  /-- br, brr, call, callr, calla, ret, reti, rets. -/
  | branch
  /-- retd, retid. -/
  | delayedReturn
  | rep
  | bkrep
  | trap
  | breakLoop
  /-- `mov repc, AB`. -/
  | movRepc
  /-- An instruction with an index-addressed operand (R103, R104). -/
  | index
  /-- max, maxd, min. -/
  | minMax
  /-- `mov mixp, REG`. -/
  | readMixp
  /-- `mov REG, icr`, `mov #imm5, icr`. -/
  | writeIcr
  /-- `mov icr, AB`. -/
  | readIcr
  deriving DecidableEq, Repr

/-- What the sequencing rules read of an instruction: words (R162); cycles, one more when `takenCond` is a condition
that holds (R640); the register read and the register written by code. -/
structure Traits where
  words : Nat
  cycles : Nat := words
  takenCond : Option Cond := none
  source : Option Reg := none
  dest : Option (DestVia × Reg) := none
  kind : Kind := .plain
  deriving DecidableEq, Repr

/-- The traits of every instruction (R162, R640; the cycles of a two-word instruction are 2). -/
def Instr.traits (i : Instr) : Traits :=
  match i with
  | .orReg _ r => { words := 1, source := some r }
  | .andReg _ r => { words := 1, source := some r }
  | .xorReg _ r => { words := 1, source := some r }
  | .addReg _ r => { words := 1, source := some r }
  | .tst0Reg _ r => { words := 1, source := some r }
  | .tst1Reg _ r => { words := 1, source := some r }
  | .cmpReg _ r => { words := 1, source := some r }
  | .subReg _ r => { words := 1, source := some r }
  | .msuYReg _ r => { words := 1, source := some r }
  | .addhReg _ r => { words := 1, source := some r }
  | .addlReg _ r => { words := 1, source := some r }
  | .subhReg _ r => { words := 1, source := some r }
  | .sublReg _ r => { words := 1, source := some r }
  | .sqrReg r => { words := 1, source := some r }
  | .sqraReg _ r => { words := 1, source := some r }
  | .cmpuReg _ r => { words := 1, source := some r }
  | .setReg r _ => { words := 2, source := some r, dest := some (.rmw, r) }
  | .rstReg r _ => { words := 2, source := some r, dest := some (.rmw, r) }
  | .chngReg r _ => { words := 2, source := some r, dest := some (.rmw, r) }
  | .addvReg r _ => { words := 2, source := some r, dest := some (.rmw, r) }
  | .tst0LongReg r _ => { words := 2, source := some r }
  | .tst1LongReg r _ => { words := 2, source := some r }
  | .cmpvReg r _ => { words := 2, source := some r }
  | .subvReg r _ => { words := 2, source := some r, dest := some (.rmw, r) }
  | .mpyYReg r => { words := 1, source := some r }
  | .mpysuYReg r => { words := 1, source := some r }
  | .macYReg _ r => { words := 1, source := some r }
  | .macusYReg _ r => { words := 1, source := some r }
  | .maaYReg _ r => { words := 1, source := some r }
  | .macuuYReg _ r => { words := 1, source := some r }
  | .macsuYReg _ r => { words := 1, source := some r }
  | .maasuYReg _ r => { words := 1, source := some r }
  | .tstbReg _ r => { words := 1, source := some r }
  | .expRegA _ r => { words := 1, source := some r }
  | .expRegSv r => { words := 1, source := some r }
  | .movRegReg d r => { words := 1, source := some r, dest := some (.mov, d) }
  | .movRegB _ r => { words := 1, source := some r }
  | .movRegMixp r => { words := 1, source := some r }
  | .movRegInd r _ _ => { words := 1, source := some r }
  | .movMixpReg r => { words := 1, kind := .readMixp, dest := some (.mov, r) }
  | .movIndReg r _ _ => { words := 1, dest := some (.mov, r) }
  | .movSpReg r => { words := 1, dest := some (.mov, r) }
  | .movDirectRn n _ => { words := 1, dest := some (.mov, n.reg) }
  | .movLongReg r _ => { words := 2, dest := some (.movLong, r) }
  | .movShortRn n _ => { words := 1, dest := some (.mov, n.reg) }
  | .movShortExt e _ => { words := 1, dest := some (.mov, e.reg) }
  | .movRegIcr r => { words := 1, kind := .writeIcr, source := some r }
  | .movpLowReg _ r => { words := 1, cycles := 3, dest := some (.movp, r) }
  | .movsReg _ r => { words := 1, source := some r }
  | .movrReg _ r => { words := 1, source := some r }
  | .pushReg r => { words := 1, source := some r }
  | .popReg r => { words := 1, dest := some (.pop, r) }
  | .repReg r => { words := 1, kind := .rep, source := some r }
  | .bkrepReg r _ => { words := 2, kind := .bkrep, source := some r }
  | .br c _ => { words := 2, kind := .branch, takenCond := some c }
  | .call c _ => { words := 2, kind := .branch, takenCond := some c }
  | .ret c => { words := 1, cycles := 2, kind := .branch, takenCond := some c }
  | .reti _ c => { words := 1, cycles := 2, kind := .branch, takenCond := some c }
  | .movrIndPart _ _ _ | .orDirect _ _ | .orInd _ _ _ | .andDirect _ _
  | .andInd _ _ _ | .xorDirect _ _ | .xorInd _ _ _ | .addDirect _ _
  | .addInd _ _ _ | .tst0Direct _ _ | .tst0Ind _ _ _ | .tst1Direct _ _
  | .tst1Ind _ _ _ | .cmpDirect _ _ | .cmpInd _ _ _ | .subDirect _ _
  | .subInd _ _ _ | .msuYDirect _ _ | .msuYInd _ _ _ | .addhDirect _ _
  | .addhInd _ _ _ | .addlDirect _ _ | .addlInd _ _ _ | .subhDirect _ _
  | .subhInd _ _ _ | .sublDirect _ _ | .sublInd _ _ _ | .sqrDirect _
  | .sqrInd _ _ | .sqraDirect _ _ | .sqraInd _ _ _ | .cmpuDirect _ _
  | .cmpuInd _ _ _ | .orShort _ _ | .andShort _ _ | .xorShort _ _
  | .addShort _ _ | .cmpShort _ _ | .subShort _ _ | .shrA _ _
  | .shr4A _ _ | .shlA _ _ | .shl4A _ _ | .rorA _ _
  | .rolA _ _ | .clrA _ _ | .notA _ _ | .negA _ _
  | .rndA _ _ | .pacrA _ _ | .clrrA _ _ | .incA _ _
  | .decA _ _ | .copyA _ _ | .divs _ _ | .mpyYInd _ _
  | .mpyDual _ _ _ _ | .mpysuYInd _ _ | .mpysuDual _ _ _ _ | .macYInd _ _ _
  | .macDual _ _ _ _ _ | .macusYInd _ _ _ | .macusDual _ _ _ _ _ | .maaYInd _ _ _
  | .maaDual _ _ _ _ _ | .macuuYInd _ _ _ | .macuuDual _ _ _ _ _ | .macsuYInd _ _ _
  | .macsuDual _ _ _ _ _ | .maasuYInd _ _ _ | .maasuDual _ _ _ _ _ | .mpyYDirect _
  | .macYDirect _ _ | .maaYDirect _ _ | .macsuYDirect _ _ | .mpyi _
  | .msuDual _ _ _ _ _ | .tstbInd _ _ _ | .tstbDirect _ _ | .shfc _ _ _
  | .shfi _ _ _ | .shrB _ _ | .shr4B _ _ | .shlB _ _
  | .shl4B _ _ | .rorB _ _ | .rolB _ _ | .clrB _ _
  | .expIndA _ _ _ | .expIndSv _ _ | .movAccAcc _ _ | .movXAcc _
  | .movIndB _ _ _ | .movRnDirect _ _ | .movPartDirect _ _ | .movDirectAcc _ _
  | .movDirectPart _ _ | .movDirectHighEu _ _ | .movDirectSv _ | .movSvDirect _
  | .movShortLow _ _ | .movShortHigh _ _ | .movsInd _ _ _ | .movsDirect _ _
  | .movsi _ _ _ | .movrInd _ _ _ | .swap _ | .banke _
  | .modr _ _ _ | .loadPage _ | .loadModi _ | .loadModj _
  | .loadStepi _ | .loadStepj _ | .loadPs _ | .limA0
  | .limA0A1 | .limA1A0 | .limA1 | .expB0A0
  | .expB1A0 | .expB0A1 | .expB1A1 | .expB0Sv
  | .expB1Sv | .movB0lDvm | .movB1lDvm | .movA0lDvm
  | .movA1lDvm | .movB0lX | .movB1lX | .movA0lX
  | .movA1lX | .movDvmB0 | .movDvmB1 | .movDvmA0
  | .movDvmA1 | .cntxS | .cntxR | .nop
  | .eint | .dint => { words := 1 }
  | .orLong _ _ | .orDirLong _ _ | .andLong _ _ | .andDirLong _ _
  | .xorLong _ _ | .xorDirLong _ _ | .addLong _ _ | .addDirLong _ _
  | .cmpLong _ _ | .cmpDirLong _ _ | .subLong _ _ | .subDirLong _ _
  | .setInd _ _ _ | .setDirect _ _ | .rstInd _ _ _ | .rstDirect _ _
  | .chngInd _ _ _ | .chngDirect _ _ | .addvInd _ _ _ | .addvDirect _ _
  | .tst0LongInd _ _ _ | .tst0LongDirect _ _ | .tst1LongInd _ _ _ | .tst1LongDirect _ _
  | .cmpvInd _ _ _ | .cmpvDirect _ _ | .subvInd _ _ _ | .subvDirect _ _
  | .mpyLong _ _ _ | .mpysuLong _ _ _ | .macLong _ _ _ _ | .macusLong _ _ _ _
  | .maaLong _ _ _ _ | .macuuLong _ _ _ _ | .macsuLong _ _ _ _ | .maasuLong _ _ _ _
  | .msuLong _ _ _ _ | .movDirLongA _ _ | .movLowDirLong _ _ | .movLongB _ _
  | .pushLong _ => { words := 2 }
  | .orIdx7 _ _ | .andIdx7 _ _ | .xorIdx7 _ _ | .addIdx7 _ _
  | .cmpIdx7 _ _ | .subIdx7 _ _ | .movIdx7A _ _ | .movLowIdx7 _ _ => { words := 1, kind := .index }
  | .orIdx16 _ _ | .andIdx16 _ _ | .xorIdx16 _ _ | .addIdx16 _ _
  | .cmpIdx16 _ _ | .subIdx16 _ _ | .movIdx16A _ _ | .movLowIdx16 _ _ => { words := 2, kind := .index }
  | .norm _ _ _ => { words := 1, cycles := 2 }
  | .maxd _ _ _ | .max _ _ _ | .min _ _ _ => { words := 1, kind := .minMax }
  | .movIcrAcc _ => { words := 1, kind := .readIcr }
  | .movShortSv _ => { words := 1, dest := some (.mov, .sv) }
  | .movImmIcr _ => { words := 1, kind := .writeIcr }
  | .movpIndInd _ _ _ _ => { words := 1, cycles := 3 }
  | .movd _ _ _ _ => { words := 1, cycles := 4 }
  | .repShort _ => { words := 1, kind := .rep }
  | .bkrepShort _ _ => { words := 2, kind := .bkrep }
  | .brr _ _ | .callr _ _ => { words := 1, cycles := 2, kind := .branch }
  | .rets _ | .callaA0 | .callaA1 => { words := 1, cycles := 3, kind := .branch }
  | .movRepcB0 | .movRepcB1 | .movRepcA0 | .movRepcA1 => { words := 1, kind := .movRepc }
  | .breakLoop => { words := 1, kind := .breakLoop }
  | .retd | .retid => { words := 1, kind := .delayedReturn }
  | .trap => { words := 1, cycles := 2, kind := .trap }

/-- The register the instruction writes by code is r. -/
def Traits.writes (t : Traits) (r : Reg) : Bool :=
  match t.dest with
  | some (_, d) => d == r
  | none => false

/-- The register is written in one of the listed ways. -/
def Traits.writesVia (t : Traits) (vs : List DestVia) (r : Reg) : Bool :=
  match t.dest with
  | some (v, d) => d == r && vs.contains v
  | none => false

/-- The register the instruction reads by code is r. -/
def Traits.reads (t : Traits) (r : Reg) : Bool := t.source == some r

/-- `cycles(I)` (R640), on the flags before the instruction. -/
def Traits.cyclesIn (t : Traits) (s : State) : Nat :=
  match t.takenCond with
  | some c => if condHolds c s.flags s.pins then t.cycles + 1 else t.cycles
  | none => t.cycles

/-- The instructions of the file 45_branch.md. -/
def Traits.isFlow (t : Traits) : Bool := t.kind == .branch || t.kind == .delayedReturn

/-- The instruction cannot be repeated (R402). -/
def Traits.notRepeatable (t : Traits) : Bool :=
  t.words == 2 || t.isFlow || t.kind == .trap || t.kind == .rep || t.kind == .movRepc || t.writes .pc

/-- The instruction cannot stand in a delay slot with `left` cycles left (R442). -/
def Traits.notInSlot (t : Traits) (left cycles : Nat) : Bool :=
  decide (left < cycles) || t.isFlow || t.kind == .rep || t.kind == .bkrep || t.kind == .trap || t.writes .pc

/-- The instruction may not start at address a of a loop whose last address is `last` (R407). -/
def Traits.badPlacement (t : Traits) (a last : Word) : Bool :=
  let near (k : Word) : Bool := a == last - k
  (t.kind == .breakLoop && near 0) ||
  (t.kind == .writeIcr && (near 0 || near 1 || near 2)) ||
  (t.kind == .readIcr && (near 0 || near 1)) ||
  ((t.isFlow || t.kind == .bkrep || t.kind == .rep || t.kind == .trap || t.writes .pc || t.writes .lc ||
    t.reads .lc) && (near 0 || near 1)) ||
  (t.writes .lc && near 2) ||
  (t.writesVia [.rmw] .lc && near 3) ||
  (t.writes .pc && near 2)

/-- The word is a `nop` (R450, R622). -/
def isNopWord (w : Word) : Bool := w &&& 0xFFE0 == 0

/-- A `nop` is stored at the address: ram or rom stands behind it and the word is a `nop` (R622, log 55). -/
def State.nopAt (s : State) (a : Word) : Bool :=
  match regionKind s.chip.progMap a with
  | .ram | .rom => isNopWord (Memory.word s.pmem a)
  | .device | .nothing => false

/-- The padding after a write to pc is there (R622): s has pc after the instruction. -/
def Traits.paddingOk (t : Traits) (s : State) : Bool :=
  if t.writes .pc then
    s.nopAt s.pc && (t.writesVia [.movLong] .pc || s.nopAt (s.pc + 1))
  else true

/-- The first rule that forbids the instruction here, in a state that has pc after it; a is its address. -/
def hazard (t : Traits) (a : Word) (s : State) : Option Refusal :=
  if s.svc.prev.wroteRb && t.kind == .index then some .indexAfterRb
  else if s.svc.prev.wroteSp && t.kind == .delayedReturn then some .delayedReturnAfterSp
  else if s.svc.prev.wroteIcr && t.kind == .bkrep then some .blockRepeatAfterIcr
  else if s.svc.prev.wasMinMax && t.kind == .readMixp then some .mixpAfterMinMax
  else if s.loops.repActive && t.notRepeatable then some .notRepeatable
  else if (match s.svc.dret with | some d => t.notInSlot d.left (t.cyclesIn s) | none => false) then
    some .notInDelaySlot
  else if s.icr.lp && t.badPlacement a s.loopLast then some .loopPlacement
  else if !t.paddingOk s then some .paddingNotNop
  else none

/-- What the instruction leaves for the check of the next one (R620 to R626). -/
def Traits.asPrevious (t : Traits) : Previous :=
  { wroteRb := t.writesVia [.mov, .movp, .pop, .rmw] .rb
    wroteSp := t.writesVia [.mov, .movp, .rmw] .sp
    wroteIcr := t.kind == .writeIcr
    wasMinMax := t.kind == .minMax }

end Sys2Proof.Machine
end

