-- ==== Sys2Proof/Machine/Interrupts.lean ====
section
/-! DEFINITION. Reset as an event (60_exceptions.md R500, 70_reset_and_hazards.md R600), when a boundary is open for a
source (R520), which request is accepted (R503, R504), and how long an instruction holds a source off (R522, R523). -/

namespace Sys2Proof.Machine

/-- Reset (R74, R600): the named fields are cleared, everything else keeps its value; in_boot takes the boot pin.
DESIGN CHOICE (log 62): the spec does not name `atVector`, `afterTrap` and `prev`, which only speak of the instruction just
executed or of the next one; they are cleared. -/
def State.resetEvent (s : State) : State :=
  { s with
    pc := 0
    flags := Flags.zero
    stat := { s.stat with im0 := false, im1 := false, im2 := false, ie := false, sat := false, ps := 0,
                          ou1 := false, ou0 := false, s := false, modulo := 0 }
    icr := { bc := 0, lp := false, ic2 := false, ic1 := false, ic0 := false, nmic := false }
    loops := { s.loops with repActive := false, repSavedActive := false }
    svc := { inNmi := false, inTrap := false, dret := none, icrCtx := 0, hold := Holds.zero, started := false,
             inBoot := s.pins.boot, atVector := false, afterTrap := false, prev := Previous.zero }
    out := Outputs.quiet }

/-- The hold counter of a source (R523); `trap` is not a request. -/
def Holds.of (h : Holds) (k : Source) : Nat :=
  match k with
  | .int0 => h.int0 | .int1 => h.int1 | .int2 => h.int2 | .nmi => h.nmi | .bi => h.bi | .trap => 0

/-- `open(K)` (R520): (b) an instruction has completed since reset, except for BI; (c) the boot procedure, NMI only;
(f) no nested repeat; (g) no delayed return; (h) no hold; and the instruction at a vector executes first (R503). -/
def State.isOpen (s : State) (k : Source) : Bool :=
  (s.svc.started || k == .bi) && !(k == .nmi && s.svc.inBoot) &&
  !(s.loops.repSavedActive && s.loops.repActive) && s.svc.dret.isNone && s.svc.hold.of k == 0 && !s.svc.atVector

/-- The request accepted at this boundary, if any (R503): BI, NMI, INT0, INT1, INT2 in this order. -/
def State.accepted (s : State) : Option Source :=
  if s.pins.bi && !s.svc.inTrap && s.isOpen .bi then some .bi
  else if s.pins.nmi && !s.svc.inNmi && !s.svc.inTrap && s.isOpen .nmi then some .nmi
  else if s.stat.ie && !s.svc.inNmi && !s.svc.inTrap then
    if s.pins.int0 && s.stat.im0 && s.isOpen .int0 then some .int0
    else if s.pins.int1 && s.stat.im1 && s.isOpen .int1 then some .int1
    else if s.pins.int2 && s.stat.im2 && s.isOpen .int2 then some .int2
    else none
  else none

/-- The delays of one instruction for INT0, INT1, INT2, NMI, BI (R522). -/
def Holds.max (x y : Holds) : Holds :=
  { int0 := Nat.max x.int0 y.int0, int1 := Nat.max x.int1 y.int1, int2 := Nat.max x.int2 y.int2,
    nmi := Nat.max x.nmi y.nmi, bi := Nat.max x.bi y.bi }

/-- The counters less the cycles an instruction took (R523). -/
def Holds.less (h : Holds) (c : Nat) : Holds :=
  { int0 := h.int0 - c, int1 := h.int1 - c, int2 := h.int2 - c, nmi := h.nmi - c, bi := h.bi - c }

/-- `delay(I, K)` (R522, R523) in the state s before I: `lastRep` the last repetition of a repeat, which holds BI as well
while an outer repeat is saved (R520 f); `first` the first instruction after a return from TRAP/BI. -/
def Traits.delay (t : Traits) (s : State) (lastRep first : Bool) : Holds :=
  let all (n : Nat) : Holds := { int0 := n, int1 := n, int2 := n, nmi := n, bi := n }
  let notBi (n : Nat) : Holds := { int0 := n, int1 := n, int2 := n, nmi := n, bi := 0 }
  let maskable (n : Nat) : Holds := { int0 := n, int1 := n, int2 := n, nmi := 0, bi := 0 }
  let only2 (n : Nat) : Holds := { int0 := 0, int1 := 0, int2 := n, nmi := 0, bi := 0 }
  let notTaken : Bool := match t.takenCond with
    | some c => !condHolds c s.flags s.pins
    | none => false
  let row1 := if notTaken || t.writesVia [.mov, .movp, .rmw] .sp || lastRep || first then notBi 1 else all 0
  let row1b := if lastRep && s.loops.repSavedActive then all 1 else all 0
  let row2 := if t.writesVia [.mov, .movp, .rmw, .pop] .st0 then maskable 2 else all 0
  let row3 := if t.writesVia [.mov, .movp, .rmw, .pop] .st2 then only2 2 else all 0
  let row4 := if t.writesVia [.movLong] .st0 then maskable 1 else all 0
  let row5 := if t.writesVia [.movLong] .st2 then only2 1 else all 0
  let row6 := if t.kind == .delayedReturn || t.writesVia [.mov, .movp, .pop] .pc then all 2 else all 0
  let row7 := if t.writesVia [.movLong] .pc then all 1 else all 0
  let row8 := if t.kind == .rep then all 2 else all 0
  ((row1.max row1b).max (row2.max row3)).max ((row4.max row5).max ((row6.max row7).max row8))

end Sys2Proof.Machine
end

