-- ==== Sys2Proof/Machine/Boundary.lean ====
section
/-! DEFINITION. Fetching an instruction, and what follows its own effect before the next boundary: the repeat (44_loop.md
R402), the end of a block-repeat pass (R406), the delayed jump (45_branch.md R442), the hold counters (R523). -/

namespace Sys2Proof.Machine

/-- A program word as the fetch of an instruction reads it (R96): where a device stands, the word is not known (log 61). -/
def fetchWord (s : State) (a : Word) (k : Word → Out) : Out :=
  match regionKind s.chip.progMap a with
  | .ram | .rom => k (Memory.word s.pmem a)
  | .device => .refused .progDevice
  | .nothing => .refused .progAbsent

/-- The words at pc and pc + 1; the second is read only where the first begins a two-word instruction (R131, R162). -/
def fetch (s : State) (k : Word → Word → Out) : Out :=
  fetchWord s s.pc fun w =>
    if wordLength w = 2 then fetchWord s (s.pc + 1) fun v => k w v else k w 0

/-- The decoder's refusal at an address (R158). -/
def DecodeError.refusal (e : DecodeError) (w a : Word) : Refusal :=
  match e with
  | .noPattern => .noPattern w a
  | .reservedField => .reservedField w a
  | .excludedOperand => .excludedOperand w a

/-- The state an instruction of this length at pc executes in: pc at the next instruction (R35), the events of the
last step gone (R513), the mark of a return from TRAP/BI taken (R523). -/
def State.begin (s : State) (words : Nat) : State :=
  { s with pc := s.pc + BitVec.ofNat 16 words
           out := Outputs.quiet
           svc := { s.svc with afterTrap := false } }

/-- After a repetition of the instruction at b (R402). -/
def State.endRepetition (s : State) (b : Word) : State :=
  if s.loops.repc = 0 then { s with loops := { s.loops with repActive := false } }
  else { s with pc := b, loops := { s.loops with repc := s.loops.repc - 1 } }

/-- After an instruction in a delay slot that took c cycles (R442): the jump when the slot is full, which may resume
a saved repeat (R403) and marks a return from TRAP/BI (R523). -/
def State.endSlot (s : State) (d : DelayedReturn) (c : Nat) : State :=
  if d.left ≤ c then
    let t := s.returnTo d.target
    { t with svc := { t.svc with dret := none, afterTrap := d.fromTrap } }
  else { s with svc := { s.svc with dret := some { d with left := d.left - c } } }

/-- The end-of-loop action (R406), for an instruction whose last word is just below `next`, where it left pc. -/
def State.endPass (s : State) (next : Word) : State :=
  if s.icr.lp ∧ s.icr.bc ≠ 0 ∧ s.pc = next ∧ s.loopLast = next - 1 then
    if s.loops.lc = 0 then s.popLevel
    else { s with pc := (s.loops.level s.icr.bc.toNat).start, loops := { s.loops with lc := s.loops.lc - 1 } }
  else s

/-- The control effects after an instruction that began in state s (pc at a) and left state t. -/
def State.control (t s : State) (tr : Traits) (a : Word) : State :=
  match s.svc.dret with
  | some d => t.endSlot d (tr.cyclesIn s)
  | none => if s.loops.repActive then t.endRepetition a else t.endPass (a + BitVec.ofNat 16 tr.words)

/-- What the service state records of the instruction (R73, R503, R520, R523, R620). After two writes to icr back to back
icr_ctx_effective is still as before both, as the last sentence of R73 has it (DESIGN CHOICE, log 60). -/
def State.record (t s : State) (tr : Traits) : State :=
  let lastRep := s.loops.repActive && t.loops.repActive == false
  { t with svc := { t.svc with
      hold := (s.svc.hold.less (tr.cyclesIn s)).max (tr.delay s lastRep s.svc.afterTrap)
      started := true
      atVector := false
      icrCtx := if tr.kind == .writeIcr then t.svc.icrCtx else t.icr.ctx
      prev := tr.asPrevious } }

/-- All that follows the effect of the instruction (R503): `s` is the state at the boundary before it, `t` the state
its meaning left. -/
def State.finish (t s : State) (tr : Traits) : State := (t.control s tr s.pc).record s tr

/-- One instruction at pc: the forbidden sequences, its meaning, what follows it. -/
def runInstr (i : Instr) (s : State) : Out :=
  let tr := Instr.traits i
  let b := s.begin tr.words
  match hazard tr s.pc b with
  | some r => .refused r
  | none =>
    match exec i b with
    | .next t => .next (t.finish s tr)
    | .fault f => .fault f
    | .refused r => .refused r

/-- The instruction the core inserts after a reset with the boot pin high: `brr #-3` (R603). -/
def bootInstr : Instr := .brr (-3) .always

/-- The inserted instruction stands at address 0 and ends the boot procedure as the core knows it (R603, D37). -/
def runBoot (s : State) : Out := runInstr bootInstr { s with svc := { s.svc with inBoot := false } }

/-- One boundary and what follows it (R503): reset, an entry, the inserted boot instruction, or the instruction at pc. -/
def stepOnce (s : State) : Out :=
  if s.pins.reset then .next s.resetEvent
  else
    match s.accepted with
    | some k => enter k { s with out := Outputs.quiet }
    | none =>
      if s.svc.inBoot && s.pc == 0 then runBoot s
      else
        fetch s fun w v =>
          match decode w v with
          | .ok i => runInstr i s
          | .error e => .refused (DecodeError.refusal e w s.pc)

/-- Where a table word is stored so that the very next step runs it: at pc in program memory, with no request and no
reset pending and no boot instruction to insert (log 47). -/
def State.placeWord (s : State) (w v : Word) : State :=
  { s with
    pmem := Memory.setWord (Memory.setWord s.pmem s.pc w) (s.pc + 1) v
    pins := { s.pins with reset := false, nmi := false, int0 := false, int1 := false, int2 := false, bi := false }
    svc := { s.svc with inBoot := false } }

end Sys2Proof.Machine
end

