-- ==== Sys2Proof/Machine/Step.lean ====
section
/-! DEFINITION. The machine's one step, and the placing of an instruction where the next step fetches it. -/

namespace Sys2Proof.Machine

/-- One step of the core: reset, or the entry of an accepted request, or one instruction (60_exceptions.md R503). -/
def step (s : State) : Host.Outcome State Fault Refusal := stepOnce s

/-- s with the instruction whose bits are the low `nbits` of w, numbered as spec/opcode_table.json numbers them, stored
where the next step fetches. -/
def State.withFetchWord (s : State) (nbits w : Nat) : State :=
  s.placeWord (BitVec.ofNat 16 (w % 2 ^ nbits)) (BitVec.ofNat 16 (w % 2 ^ nbits / 65536))

end Sys2Proof.Machine
end

