-- ==== Sys2Proof/Safety.lean ====
section
/-! DEFINITION. What the claims require of a state: the invariant that every step keeps, and what can be read and
written where. -/

namespace Sys2Proof.Machine

/-- The cells of a memory are bytes of the 65536 words of a space (20_memory.md R80; two bytes a word, log 3). -/
def Memory.inSpace (m : List Host.Cell) : Bool := m.all fun c => decide (c.1 < 131072)

/-- BC counts the active levels, at most four, and LP is set exactly while one is active (10_state.md R43, 44_loop.md
R404, R406, R408, R409). -/
def Icr.levelsOk (i : Icr) : Bool := decide (i.bc.toNat ≤ 4) && (i.lp == (i.bc != 0))

/-- The hold counters are at most two cycles, the largest delay of 60_exceptions.md R522. -/
def Holds.small (h : Holds) : Bool :=
  decide (h.int0 ≤ 2) && decide (h.int1 ≤ 2) && decide (h.int2 ≤ 2) && decide (h.nmi ≤ 2) && decide (h.bi ≤ 2)

/-- A delayed return has one or two cycles left, and no instruction is under repetition beside it (45_branch.md R442,
44_loop.md R402). -/
def State.slotOk (s : State) : Bool :=
  match s.svc.dret with
  | some d => (d.left == 1 || d.left == 2) && !s.loops.repActive
  | none => true

/-- The invariant of the machine: both memories canonical and within their spaces, the block-repeat nesting legal, a
delayed return legal, the hold counters within their bound. -/
def State.inv (s : State) : Bool :=
  Memory.wf s.dmem && Memory.inSpace s.dmem && Memory.wf s.pmem && Memory.inSpace s.pmem &&
  s.icr.levelsOk && s.slotOk && s.svc.hold.small

/-- The invariant as a proposition. -/
abbrev State.Inv (s : State) : Prop := s.inv = true

/-- ram or rom stands behind the data address (20_memory.md R83, 92_eei_decisions.md D2). -/
def State.readable (s : State) (a : Word) : Bool :=
  match regionKind s.chip.dataMap a with
  | .ram | .rom => true
  | .device | .nothing => false

/-- ram stands behind the data address. -/
def State.writable (s : State) (a : Word) : Bool := regionKind s.chip.dataMap a == .ram

/-- ram or rom stands behind the program address. -/
def State.progReadable (s : State) (a : Word) : Bool :=
  match regionKind s.chip.progMap a with
  | .ram | .rom => true
  | .device | .nothing => false

/-- ram stands behind the program address. -/
def State.progWritable (s : State) (a : Word) : Bool := regionKind s.chip.progMap a == .ram

end Sys2Proof.Machine
end

