-- ==== Sys2Proof/Certificates/Slice0/Obligations.lean ====
section
/-! DEFINITION. The statements for the provers. The first part says in integers and in bits what the rules of spec/
give (operands, results, flags), apart from the model's own operations; the second part states the obligations. -/

namespace Sys2Proof.Claim

open Sys2Proof.Machine

/-! ### Conditions and operands -/

/-- The condition of R58 holds. -/
def holds (c : Cond) (s : State) : Bool :=
  match c with
  | .always => true
  | .eq => s.flags.z
  | .neq => !s.flags.z
  | .gt => !(s.flags.m || s.flags.z)
  | .ge => !s.flags.m
  | .lt => s.flags.m
  | .le => s.flags.m || s.flags.z
  | .nn => !s.flags.n
  | .vSet => s.flags.v
  | .cSet => s.flags.c
  | .eSet => s.flags.e
  | .lSet => s.flags.l
  | .nr => !s.flags.r
  | .niu0 => !s.pins.iuser0
  | .iu0 => s.pins.iuser0
  | .iu1 => s.pins.iuser1

/-- A register that supplies a 16-bit operand: not a0, a1, p (R62), and in the chip (R38). -/
def regReady (r : Reg) (s : State) : Bool := r.is16 && s.hasReg r

/-- The 16-bit operand can be read. -/
def ready (x : Src) (s : State) : Bool :=
  match x with
  | .direct a => s.readable (s.stat.page ++ a)
  | .ind n _ => s.readable (s.ptr n)
  | .reg r => regReady r s

/-- The 16-bit operand (R201, R217): a word of data memory or a register. -/
def value (x : Src) (s : State) : Word :=
  match x with
  | .direct a => Memory.word s.dmem (s.stat.page ++ a)
  | .ind n _ => Memory.word s.dmem (s.ptr n)
  | .reg r => s.regValue r

/-- The state after the operand is read: an (rN) operand is post-modified (R102); a read of st1 or st2 uses a free
value (log 6). -/
def rest (x : Src) (s : State) : State :=
  match x with
  | .direct _ => s
  | .ind n m => s.bump n m
  | .reg r => s.afterRead r

/-- The data address of a memory operand. -/
def place (x : Src) (s : State) : Option Word :=
  match x with
  | .direct a => some (s.stat.page ++ a)
  | .ind n _ => some (s.ptr n)
  | .reg _ => none

/-- `m'` is `m` with the word `v` at word address `a`: that word reads as v, every byte elsewhere reads as before. -/
def stored (m m' : List Host.Cell) (a v : Word) : Prop :=
  Memory.word m' a = v ∧ ∀ k, k ≠ 2 * a.toNat → k ≠ 2 * a.toNat + 1 → Memory.get m' k = Memory.get m k

/-- A 16-bit operand as an integer, signed or unsigned (R201). -/
def widen (x : Ext) (v : Word) : Int :=
  match x with
  | .sign => v.toInt
  | .zero => v.toNat

/-- The 33-bit product: p with its hidden sign bit (R24, R65). -/
def product (m : Multiplier) : Int := if m.pu then m.p.toNat else m.p.toInt

/-- The shifted p (R34): the product, halved, doubled or quadrupled as PS says. -/
def shiftedProduct (s : State) : Int :=
  match s.stat.ps.toNat with
  | 0 => product s.mul
  | 1 => product s.mul / 2
  | 2 => 2 * product s.mul
  | _ => 4 * product s.mul

/-- The operand of an ALU instruction can be read (R201). -/
def aluReady (x : AluSrc) (s : State) : Bool :=
  match x with
  | .direct a => ready (.direct a) s
  | .ind n m => ready (.ind n m) s
  | .reg r => r == .a0 || r == .a1 || r == .p || regReady r s
  | .short _ => true
  | .long _ => true
  | .idx7 o => s.readable (s.dau.rb + o.signExtend 16)
  | .idx16 o => s.readable (s.dau.rb + o)
  | .dirLong a => s.readable a

/-- The operand of an ALU instruction as an integer (R201). -/
def aluOperand (x : AluSrc) (e : Ext) (s : State) : Int :=
  match x with
  | .direct a => widen e (value (.direct a) s)
  | .ind n m => widen e (value (.ind n m) s)
  | .reg r =>
    if r = .a0 then s.accs.a0.toInt
    else if r = .a1 then s.accs.a1.toInt
    else if r = .p then shiftedProduct s
    else widen e (s.regValue r)
  | .short v => v.toNat
  | .long v => widen e v
  | .idx7 o => widen e (Memory.word s.dmem (s.dau.rb + o.signExtend 16))
  | .idx16 o => widen e (Memory.word s.dmem (s.dau.rb + o))
  | .dirLong a => widen e (Memory.word s.dmem a)

/-- The state after the operand of an ALU instruction is read. -/
def aluRest (x : AluSrc) (s : State) : State :=
  match x with
  | .ind n m => s.bump n m
  | .reg r => s.afterRead r
  | .direct _ | .short _ | .long _ | .idx7 _ | .idx16 _ | .dirLong _ => s

/-! ### Results and flags -/

/-- The value does not fit 32 bits (R50). -/
def wide (r : Acc) : Bool := decide (r.toInt < -(2 ^ 31)) || decide (2 ^ 31 ≤ r.toInt)

/-- Z, M, E, N of a 36-bit value (R52). -/
def zmne (f : Flags) (r : Acc) : Flags :=
  { f with z := decide (r.toNat = 0)
           m := decide (r.toInt < 0)
           e := wide r
           n := decide (r.toNat = 0) || (!wide r && r.getLsbD 31 != r.getLsbD 30) }

/-- The integer is no 36-bit two's complement number. -/
def outside36 (n : Int) : Bool := decide (n < -(2 ^ 35)) || decide (2 ^ 35 ≤ n)

/-- The flags of an arithmetic result (R200): V is latched in L, R is left. -/
def sumFlags (f : Flags) (r : Acc) (carry overflow : Bool) : Flags :=
  { zmne f r with c := carry, v := overflow, l := f.l || overflow }

/-- x + n and its flags: C the carry out of bit 35, V a sum outside 36 bits (R200). -/
def plus (f : Flags) (x : Acc) (n : Int) : Acc × Flags :=
  (BitVec.ofInt 36 (x.toInt + n),
   sumFlags f (BitVec.ofInt 36 (x.toInt + n)) (decide (2 ^ 36 ≤ (x.toNat : Int) + n % 2 ^ 36)) (outside36 (x.toInt + n)))

/-- x - n and its flags: C the borrow, V a difference outside 36 bits (R200). -/
def minus (f : Flags) (x : Acc) (n : Int) : Acc × Flags :=
  (BitVec.ofInt 36 (x.toInt - n),
   sumFlags f (BitVec.ofInt 36 (x.toInt - n)) (decide ((x.toNat : Int) < n % 2 ^ 36)) (outside36 (x.toInt - n)))

/-- x shifted by n places, left when n is positive (R290): times 2^n; the floor of x over 2^-n, of the unsigned x in
logic mode. -/
def shifted (x : Acc) (n : Int) (logic : Bool) : Acc :=
  if 0 ≤ n then BitVec.ofInt 36 (x.toInt * 2 ^ n.toNat)
  else if logic then BitVec.ofNat 36 (x.toNat / 2 ^ (-n).toNat)
  else BitVec.ofInt 36 (x.toInt / 2 ^ (-n).toNat)

/-- The last bit shifted out, 0 for a count of 0 (R290). -/
def shiftCarry (x : Acc) (n : Int) : Bool :=
  if n = 0 then false else if 0 < n then x.getLsbD (36 - n.toNat) else x.getLsbD ((-n).toNat - 1)

/-- A left shift leaves 36 bits (R290). -/
def shiftOverflow (x : Acc) (n : Int) : Bool := decide (0 < n) && outside36 (x.toInt * 2 ^ n.toNat)

/-- The flags of a shift (R290): V and L only in arithmetic mode. -/
def shiftFlags (f : Flags) (x : Acc) (n : Int) (logic : Bool) : Flags :=
  let r := shifted x n logic
  if logic then { zmne f r with c := shiftCarry x n } else sumFlags f r (shiftCarry x n) (shiftOverflow x n)

/-- The accumulator part that a register code names: the accumulator and the part's lowest bit (R139). -/
def partOf (r : Reg) : Option (AB × Nat) :=
  match r with
  | .a0l => some (.a0, 0) | .a0h => some (.a0, 16) | .a1l => some (.a1, 0) | .a1h => some (.a1, 16)
  | .b0l => some (.b0, 0) | .b0h => some (.b0, 16) | .b1l => some (.b1, 0) | .b1h => some (.b1, 16)
  | _ => none

/-- The read-modify-write of a register (R217): of an accumulator only the part's sixteen bits change. -/
def rewrite (s : State) (r : Reg) (w : Word) : State :=
  match partOf r with
  | some (i, lo) =>
    { s with accs := s.accs.set i ((s.accs.get i &&& ~~~((0xFFFF : Acc) <<< lo)) ||| (w.setWidth 36 <<< lo)) }
  | none => s.setReg r w

/-- The value clamped to 32 bits where saturation is on (R31). -/
def clamped (sat : Bool) (x : Acc) : Int := if sat then x.toInt else max (-(2 ^ 31)) (min (2 ^ 31 - 1) x.toInt)

/-- The accumulator that a write to a register code changes, and its new value (R30). -/
def accWrite (r : Reg) (v : Word) : Option (AB × Int) :=
  match r with
  | .a0 => some (.a0, v.toInt) | .a1 => some (.a1, v.toInt)
  | .a0l => some (.a0, v.toNat) | .a1l => some (.a1, v.toNat)
  | .b0l => some (.b0, v.toNat) | .b1l => some (.b1, v.toNat)
  | .a0h => some (.a0, v.toInt * 65536) | .a1h => some (.a1, v.toInt * 65536)
  | .b0h => some (.b0, v.toInt * 65536) | .b1h => some (.b1, v.toInt * 65536)
  | _ => none

/-- The state after `mov`, `movp` or `pop` writes v to a register (R330): an accumulator sets Z, M, N, E. -/
def landed (s : State) (r : Reg) (v : Word) : State :=
  match accWrite r v with
  | some (i, x) => { s with accs := s.accs.set i (BitVec.ofInt 36 x), flags := zmne s.flags (BitVec.ofInt 36 x) }
  | none => s.setReg r v

/-- Accumulator i takes x, and Z, M, N, E describe it. -/
def accLanded (s : State) (i : AB) (x : Acc) : State := { s with accs := s.accs.set i x, flags := zmne s.flags x }

/-- The 16-bit sources of the move instructions (43_move.md). -/
inductive WordSrc where
  | reg (r : Reg)
  | part (i : AB) (high : Bool)
  | imm (v : Word)
  | ind (n : RN) (m : PostMod)
  | data (x : AluSrc)
  | top
  | pop
  | prog (d : AX)
  | mixp | x | repc | dvm
  deriving DecidableEq, Repr

/-- The source can be read. -/
def srcReady (w : WordSrc) (s : State) : Bool :=
  match w with
  | .reg r => (partOf r).isSome || regReady r s
  | .ind n _ => s.readable (s.ptr n)
  | .data x => aluReady x s
  | .top | .pop => s.readable s.dau.sp
  | .prog d => s.progReadable ((s.accs.get d.ab).setWidth 16)
  | .part _ _ | .imm _ | .mixp | .x | .repc | .dvm => true

/-- The value a move takes (R330): a part of an accumulator is clamped first (R31). -/
def srcValue (w : WordSrc) (s : State) : Word :=
  match w with
  | .reg r =>
    match partOf r with
    | some (i, lo) => (BitVec.ofInt 36 (clamped s.stat.sat (s.accs.get i))).extractLsb' lo 16
    | none => s.regValue r
  | .part i high =>
    (BitVec.ofInt 36 (clamped s.stat.sat (s.accs.get i))).extractLsb' (if high then 16 else 0) 16
  | .imm v => v
  | .ind n _ => Memory.word s.dmem (s.ptr n)
  | .data x => BitVec.ofInt 16 (aluOperand x .sign s)
  | .top | .pop => Memory.word s.dmem s.dau.sp
  | .prog d => Memory.word s.pmem ((s.accs.get d.ab).setWidth 16)
  | .mixp => s.dau.mixp
  | .x => s.mul.x
  | .repc => s.loops.repc
  | .dvm => s.dvm

/-- L after an accumulator is read through the saturation logic (R31). -/
def latched (s : State) (i : AB) : State :=
  { s with flags := { s.flags with l := s.flags.l || (!s.stat.sat && wide (s.accs.get i)) } }

/-- The state after the source is read. -/
def srcRest (w : WordSrc) (s : State) : State :=
  match w with
  | .reg r =>
    match partOf r with
    | some (i, _) => latched s i
    | none => s.afterRead r
  | .part i _ => latched s i
  | .ind n m => s.bump n m
  | .pop => { s with dau := { s.dau with sp := s.dau.sp + 1 } }
  | .imm _ | .data _ | .top | .prog _ | .mixp | .x | .repc | .dvm => s

/-- The jump of a return to address t (R430, R403): a repeat saved at that address resumes. -/
def jumpBack (s : State) (t : Word) : State :=
  { s with
    pc := t
    loops := if s.loops.repSavedActive ∧ s.loops.repSavedAddr = t then
        { s.loops with repActive := true, repSavedActive := false, repc := s.loops.repSavedC }
      else s.loops }

/-! ### The instructions, by what they do -/

/-- The instructions that add to aX: `add`, `addh`, `addl` in all their forms. -/
def addView (i : Instr) : Option (AluOp × AX × AluSrc) :=
  match i with
  | .addDirect d a => some (.add, d, .direct a)
  | .addInd d n m => some (.add, d, .ind n m)
  | .addReg d r => some (.add, d, .reg r)
  | .addShort d v => some (.add, d, .short v)
  | .addLong d v => some (.add, d, .long v)
  | .addIdx7 d o => some (.add, d, .idx7 o)
  | .addIdx16 d v => some (.add, d, .idx16 v)
  | .addDirLong d v => some (.add, d, .dirLong v)
  | .addhDirect d a => some (.addh, d, .direct a)
  | .addhInd d n m => some (.addh, d, .ind n m)
  | .addhReg d r => some (.addh, d, .reg r)
  | .addlDirect d a => some (.addl, d, .direct a)
  | .addlInd d n m => some (.addl, d, .ind n m)
  | .addlReg d r => some (.addl, d, .reg r)
  | _ => none

/-- The instructions that subtract from aX or compare it: `sub`, `subh`, `subl`, `cmp`, `cmpu` in all their forms. -/
def subView (i : Instr) : Option (AluOp × AX × AluSrc) :=
  match i with
  | .subDirect d a => some (.sub, d, .direct a)
  | .subInd d n m => some (.sub, d, .ind n m)
  | .subReg d r => some (.sub, d, .reg r)
  | .subShort d v => some (.sub, d, .short v)
  | .subLong d v => some (.sub, d, .long v)
  | .subIdx7 d o => some (.sub, d, .idx7 o)
  | .subIdx16 d v => some (.sub, d, .idx16 v)
  | .subDirLong d v => some (.sub, d, .dirLong v)
  | .subhDirect d a => some (.subh, d, .direct a)
  | .subhInd d n m => some (.subh, d, .ind n m)
  | .subhReg d r => some (.subh, d, .reg r)
  | .sublDirect d a => some (.subl, d, .direct a)
  | .sublInd d n m => some (.subl, d, .ind n m)
  | .sublReg d r => some (.subl, d, .reg r)
  | .cmpDirect d a => some (.cmp, d, .direct a)
  | .cmpInd d n m => some (.cmp, d, .ind n m)
  | .cmpReg d r => some (.cmp, d, .reg r)
  | .cmpShort d v => some (.cmp, d, .short v)
  | .cmpLong d v => some (.cmp, d, .long v)
  | .cmpIdx7 d o => some (.cmp, d, .idx7 o)
  | .cmpIdx16 d v => some (.cmp, d, .idx16 v)
  | .cmpDirLong d v => some (.cmp, d, .dirLong v)
  | .cmpuDirect d a => some (.cmpu, d, .direct a)
  | .cmpuInd d n m => some (.cmpu, d, .ind n m)
  | .cmpuReg d r => some (.cmpu, d, .reg r)
  | _ => none

/-- The logic instructions `or`, `and`, `xor` in all their forms. -/
def logicView (i : Instr) : Option (AluOp × AX × AluSrc) :=
  match i with
  | .orDirect d a => some (.or, d, .direct a)
  | .orInd d n m => some (.or, d, .ind n m)
  | .orReg d r => some (.or, d, .reg r)
  | .orShort d v => some (.or, d, .short v)
  | .orLong d v => some (.or, d, .long v)
  | .orIdx7 d o => some (.or, d, .idx7 o)
  | .orIdx16 d v => some (.or, d, .idx16 v)
  | .orDirLong d v => some (.or, d, .dirLong v)
  | .andDirect d a => some (.and, d, .direct a)
  | .andInd d n m => some (.and, d, .ind n m)
  | .andReg d r => some (.and, d, .reg r)
  | .andShort d v => some (.and, d, .short v)
  | .andLong d v => some (.and, d, .long v)
  | .andIdx7 d o => some (.and, d, .idx7 o)
  | .andIdx16 d v => some (.and, d, .idx16 v)
  | .andDirLong d v => some (.and, d, .dirLong v)
  | .xorDirect d a => some (.xor, d, .direct a)
  | .xorInd d n m => some (.xor, d, .ind n m)
  | .xorReg d r => some (.xor, d, .reg r)
  | .xorShort d v => some (.xor, d, .short v)
  | .xorLong d v => some (.xor, d, .long v)
  | .xorIdx7 d o => some (.xor, d, .idx7 o)
  | .xorIdx16 d v => some (.xor, d, .idx16 v)
  | .xorDirLong d v => some (.xor, d, .dirLong v)
  | _ => none

/-- The read-modify-write operations on 16 bits (R214, R215, R301 to R303). -/
inductive RmwOp where
  | addv | subv | set | rst | chng
  deriving DecidableEq, Repr

/-- `addv`, `subv`, `set`, `rst`, `chng` in all their forms. -/
def rmwView (i : Instr) : Option (RmwOp × Src × Word) :=
  match i with
  | .addvDirect a v => some (.addv, .direct a, v)
  | .addvInd n m v => some (.addv, .ind n m, v)
  | .addvReg r v => some (.addv, .reg r, v)
  | .subvDirect a v => some (.subv, .direct a, v)
  | .subvInd n m v => some (.subv, .ind n m, v)
  | .subvReg r v => some (.subv, .reg r, v)
  | .setDirect a v => some (.set, .direct a, v)
  | .setInd n m v => some (.set, .ind n m, v)
  | .setReg r v => some (.set, .reg r, v)
  | .rstDirect a v => some (.rst, .direct a, v)
  | .rstInd n m v => some (.rst, .ind n m, v)
  | .rstReg r v => some (.rst, .reg r, v)
  | .chngDirect a v => some (.chng, .direct a, v)
  | .chngInd n m v => some (.chng, .ind n m, v)
  | .chngReg r v => some (.chng, .reg r, v)
  | _ => none

/-- `cmpv` in all its forms. -/
def cmpvView (i : Instr) : Option (Src × Word) :=
  match i with
  | .cmpvDirect a v => some (.direct a, v)
  | .cmpvInd n m v => some (.ind n m, v)
  | .cmpvReg r v => some (.reg r, v)
  | _ => none

/-- The one-bit and four-bit shifts of `moda` and `modb`: accumulator, condition, count. -/
def shiftFnView (i : Instr) : Option (AB × Cond × Int) :=
  match i with
  | .shrA d c => some (d.ab, c, -1)
  | .shr4A d c => some (d.ab, c, -4)
  | .shlA d c => some (d.ab, c, 1)
  | .shl4A d c => some (d.ab, c, 4)
  | .shrB d c => some (d.ab, c, -1)
  | .shr4B d c => some (d.ab, c, -4)
  | .shlB d c => some (d.ab, c, 1)
  | .shl4B d c => some (d.ab, c, 4)
  | _ => none

/-- The rotations of `moda` and `modb`; true is to the left. -/
def rotateView (i : Instr) : Option (AB × Cond × Bool) :=
  match i with
  | .rorA d c => some (d.ab, c, false)
  | .rolA d c => some (d.ab, c, true)
  | .rorB d c => some (d.ab, c, false)
  | .rolB d c => some (d.ab, c, true)
  | _ => none

/-- The other functions of `moda`, and `clr` of `modb`. -/
def accFnView (i : Instr) : Option (ModFn × AB × Cond) :=
  match i with
  | .clrA d c => some (.clr, d.ab, c)
  | .notA d c => some (.not, d.ab, c)
  | .negA d c => some (.neg, d.ab, c)
  | .rndA d c => some (.rnd, d.ab, c)
  | .pacrA d c => some (.pacr, d.ab, c)
  | .clrrA d c => some (.clrr, d.ab, c)
  | .incA d c => some (.inc, d.ab, c)
  | .decA d c => some (.dec, d.ab, c)
  | .copyA d c => some (.copy, d.ab, c)
  | .clrB d c => some (.clr, d.ab, c)
  | _ => none

/-- The instructions that do nothing at all when their condition is false, but for calls. -/
def condView (i : Instr) : Option (Cond) :=
  match i with
  | .shrA _ c => some (c)
  | .shr4A _ c => some (c)
  | .shlA _ c => some (c)
  | .shl4A _ c => some (c)
  | .rorA _ c => some (c)
  | .rolA _ c => some (c)
  | .clrA _ c => some (c)
  | .notA _ c => some (c)
  | .negA _ c => some (c)
  | .rndA _ c => some (c)
  | .pacrA _ c => some (c)
  | .clrrA _ c => some (c)
  | .incA _ c => some (c)
  | .decA _ c => some (c)
  | .copyA _ c => some (c)
  | .shrB _ c => some (c)
  | .shr4B _ c => some (c)
  | .shlB _ c => some (c)
  | .shl4B _ c => some (c)
  | .rorB _ c => some (c)
  | .rolB _ c => some (c)
  | .clrB _ c => some (c)
  | .shfc _ _ c => some (c)
  | .br c _ => some (c)
  | .brr _ c => some (c)
  | .ret c => some (c)
  | .reti _ c => some (c)
  | _ => none

/-- Where a new extreme comes from: the other accumulator, or the data word at r0 (R246 to R248). -/
inductive Rival where
  | other | data
  deriving DecidableEq, Repr

/-- The rival wins over the accumulator: larger or smaller, the equal ones included or not (R246 to R248). -/
inductive Contest where
  | ge | gt | le | lt
  deriving DecidableEq, Repr

/-- `max`, `maxd`, `min`: the contest, where the rival comes from, aX, the post-modification of r0. -/
def extremeView (i : Instr) : Option (Contest × Rival × AX × PostMod) :=
  match i with
  | .max .ge d m => some (.ge, .other, d, m)
  | .max .gt d m => some (.gt, .other, d, m)
  | .maxd .ge d m => some (.ge, .data, d, m)
  | .maxd .gt d m => some (.gt, .data, d, m)
  | .min .le d m => some (.le, .other, d, m)
  | .min .lt d m => some (.lt, .other, d, m)
  | _ => none

/-- `lim`: source and destination (R249). -/
def limitView (i : Instr) : Option (AB × AB) :=
  match i with
  | .limA0 => some (.a0, .a0)
  | .limA0A1 => some (.a0, .a1)
  | .limA1A0 => some (.a1, .a0)
  | .limA1 => some (.a1, .a1)
  | _ => none

/-- The operands of a multiply: y kept and x loaded, both loaded from memory, y from memory and x the operand word, x an
immediate, both the same word (R261, R271 to R273). -/
inductive Factors where
  | y (x : Src)
  | dual (j : RJ) (jm : PostMod) (i : RI) (im : PostMod)
  | long (n : RN) (m : PostMod) (v : Word)
  | short (v : BitVec 8)
  | square (x : Src)
  deriving DecidableEq, Repr

/-- What a multiply does with the previous product: added, added after 16 places to the right, subtracted (R264, R268, R270). -/
inductive Accumulation where
  | add | aligned | sub
  deriving DecidableEq, Repr

/-- The multiplies without accumulation: `mpy`, `mpysu`, `mpyi`, `sqr` in all their forms; the signs of y and x. -/
def mpyView (i : Instr) : Option (Sign × Sign × Factors) :=
  match i with
  | .mpyYInd n m => some (.signed, .signed, .y (.ind n m))
  | .mpyYReg r => some (.signed, .signed, .y (.reg r))
  | .mpyDual j jm i im => some (.signed, .signed, .dual j jm i im)
  | .mpyLong n m v => some (.signed, .signed, .long n m v)
  | .mpysuYInd n m => some (.signed, .unsigned, .y (.ind n m))
  | .mpysuYReg r => some (.signed, .unsigned, .y (.reg r))
  | .mpysuDual j jm i im => some (.signed, .unsigned, .dual j jm i im)
  | .mpysuLong n m v => some (.signed, .unsigned, .long n m v)
  | .mpyYDirect a => some (.signed, .signed, .y (.direct a))
  | .mpyi v => some (.signed, .signed, .short v)
  | .sqrDirect a => some (.signed, .signed, .square (.direct a))
  | .sqrInd n m => some (.signed, .signed, .square (.ind n m))
  | .sqrReg r => some (.signed, .signed, .square (.reg r))
  | _ => none

/-- The multiplies that accumulate the previous product: `mac`, `macsu`, `macus`, `macuu`, `maa`, `maasu`, `msu`, `sqra` in all their forms. -/
def macView (i : Instr) : Option (Accumulation × Sign × Sign × AX × Factors) :=
  match i with
  | .macYInd d n m => some (.add, .signed, .signed, d, .y (.ind n m))
  | .macYReg d r => some (.add, .signed, .signed, d, .y (.reg r))
  | .macDual d j jm i im => some (.add, .signed, .signed, d, .dual j jm i im)
  | .macLong d n m v => some (.add, .signed, .signed, d, .long n m v)
  | .macYDirect d a => some (.add, .signed, .signed, d, .y (.direct a))
  | .macsuYInd d n m => some (.add, .signed, .unsigned, d, .y (.ind n m))
  | .macsuYReg d r => some (.add, .signed, .unsigned, d, .y (.reg r))
  | .macsuDual d j jm i im => some (.add, .signed, .unsigned, d, .dual j jm i im)
  | .macsuLong d n m v => some (.add, .signed, .unsigned, d, .long n m v)
  | .macsuYDirect d a => some (.add, .signed, .unsigned, d, .y (.direct a))
  | .macusYInd d n m => some (.add, .unsigned, .signed, d, .y (.ind n m))
  | .macusYReg d r => some (.add, .unsigned, .signed, d, .y (.reg r))
  | .macusDual d j jm i im => some (.add, .unsigned, .signed, d, .dual j jm i im)
  | .macusLong d n m v => some (.add, .unsigned, .signed, d, .long n m v)
  | .macuuYInd d n m => some (.add, .unsigned, .unsigned, d, .y (.ind n m))
  | .macuuYReg d r => some (.add, .unsigned, .unsigned, d, .y (.reg r))
  | .macuuDual d j jm i im => some (.add, .unsigned, .unsigned, d, .dual j jm i im)
  | .macuuLong d n m v => some (.add, .unsigned, .unsigned, d, .long n m v)
  | .maaYInd d n m => some (.aligned, .signed, .signed, d, .y (.ind n m))
  | .maaYReg d r => some (.aligned, .signed, .signed, d, .y (.reg r))
  | .maaDual d j jm i im => some (.aligned, .signed, .signed, d, .dual j jm i im)
  | .maaLong d n m v => some (.aligned, .signed, .signed, d, .long n m v)
  | .maaYDirect d a => some (.aligned, .signed, .signed, d, .y (.direct a))
  | .maasuYInd d n m => some (.aligned, .signed, .unsigned, d, .y (.ind n m))
  | .maasuYReg d r => some (.aligned, .signed, .unsigned, d, .y (.reg r))
  | .maasuDual d j jm i im => some (.aligned, .signed, .unsigned, d, .dual j jm i im)
  | .maasuLong d n m v => some (.aligned, .signed, .unsigned, d, .long n m v)
  | .msuYInd d n m => some (.sub, .signed, .signed, d, .y (.ind n m))
  | .msuYReg d r => some (.sub, .signed, .signed, d, .y (.reg r))
  | .msuDual d j jm i im => some (.sub, .signed, .signed, d, .dual j jm i im)
  | .msuLong d n m v => some (.sub, .signed, .signed, d, .long n m v)
  | .msuYDirect d a => some (.sub, .signed, .signed, d, .y (.direct a))
  | .sqraDirect d a => some (.add, .signed, .signed, d, .square (.direct a))
  | .sqraInd d n m => some (.add, .signed, .signed, d, .square (.ind n m))
  | .sqraReg d r => some (.add, .signed, .signed, d, .square (.reg r))
  | _ => none

/-- What a bit test looks for: zeros or ones under the mask in aXl or in the operand word, or one bit (R304 to R308). -/
inductive Probe where
  | zerosLow (d : AX)
  | onesLow (d : AX)
  | zeros (v : Word)
  | ones (v : Word)
  | bit (k : BitVec 4)
  deriving DecidableEq, Repr

/-- `tst0`, `tst1`, `tstb` in all their forms. -/
def testView (i : Instr) : Option (Probe × Src) :=
  match i with
  | .tst0Direct d a => some (.zerosLow d, .direct a)
  | .tst0Ind d n m => some (.zerosLow d, .ind n m)
  | .tst0Reg d r => some (.zerosLow d, .reg r)
  | .tst0LongDirect a v => some (.zeros v, .direct a)
  | .tst0LongInd n m v => some (.zeros v, .ind n m)
  | .tst0LongReg r v => some (.zeros v, .reg r)
  | .tst1Direct d a => some (.onesLow d, .direct a)
  | .tst1Ind d n m => some (.onesLow d, .ind n m)
  | .tst1Reg d r => some (.onesLow d, .reg r)
  | .tst1LongDirect a v => some (.ones v, .direct a)
  | .tst1LongInd n m v => some (.ones v, .ind n m)
  | .tst1LongReg r v => some (.ones v, .reg r)
  | .tstbDirect k a => some (.bit k, .direct a)
  | .tstbInd k n m => some (.bit k, .ind n m)
  | .tstbReg k r => some (.bit k, .reg r)
  | _ => none

/-- What the barrel shifter shifts: an accumulator, or a 16-bit operand sign-extended (R315, R316, R378). -/
inductive Shiftee where
  | acc (i : AB)
  | word (x : Src)
  deriving DecidableEq, Repr

/-- `shfi`, `shfc`, `movs` in all their forms: the immediate count, none for the count in sv. -/
def shiftView (i : Instr) : Option (Option (BitVec 6) × Cond × Shiftee × AB) :=
  match i with
  | .shfi src d k => some (some k, .always, .acc src, d)
  | .shfc src d c => some (none, c, .acc src, d)
  | .movsReg d r => some (none, .always, .word (.reg r), d)
  | .movsInd d n m => some (none, .always, .word (.ind n m), d)
  | .movsDirect d a => some (none, .always, .word (.direct a), d)
  | _ => none

/-- What `exp` evaluates: an accumulator whole, or a 16-bit operand in bits 31..16 (R310, R311). -/
inductive Measured where
  | acc (i : AB)
  | word (x : Src)
  deriving DecidableEq, Repr

/-- A register of `exp`: a0 and a1 are read whole (R311). -/
def measuredReg (r : Reg) : Measured := if r = .a0 then .acc .a0 else if r = .a1 then .acc .a1 else .word (.reg r)

/-- `exp` in all its forms: what is evaluated, the accumulator that takes the result beside sv. -/
def expView (i : Instr) : Option (Measured × Option AX) :=
  match i with
  | .expIndA d n m => some (.word (.ind n m), some d)
  | .expRegA d r => some (measuredReg r, some d)
  | .expIndSv n m => some (.word (.ind n m), none)
  | .expRegSv r => some (measuredReg r, none)
  | .expB0A0 => some (.acc .b0, some .a0)
  | .expB1A0 => some (.acc .b1, some .a0)
  | .expB0A1 => some (.acc .b0, some .a1)
  | .expB1A1 => some (.acc .b1, some .a1)
  | .expB0Sv => some (.acc .b0, none)
  | .expB1Sv => some (.acc .b1, none)
  | _ => none

/-- The moves into a register named by a code (43_move.md): source and destination. -/
def regDestView (i : Instr) : Option (WordSrc × Reg) :=
  match i with
  | .movRegReg d r => some (.reg r, d)
  | .movMixpReg r => some (.mixp, r)
  | .movIndReg r n m => some (.ind n m, r)
  | .movSpReg r => some (.top, r)
  | .movDirectRn n a => some (.data (.direct a), n.reg)
  | .movLongReg r v => some (.imm v, r)
  | .movShortRn n v => some (.imm (v.signExtend 16), n.reg)
  | .movShortExt e v => some (.imm (v.signExtend 16), e.reg)
  | .movShortSv v => some (.imm (v.signExtend 16), .sv)
  | .movpLowReg d r => some (.prog d, r)
  | .popReg r => some (.pop, r)
  | _ => none

/-- What a move puts into an accumulator: a word sign-extended, a word in the low part, a word in the high part, a word in
the high part with the extension kept, another accumulator, the shifted p (R30, R331, R332, R345). -/
inductive AccValue where
  | full (w : WordSrc)
  | low (w : WordSrc)
  | high (w : WordSrc)
  | highKeep (w : WordSrc)
  | acc (i : AB)
  | product
  deriving DecidableEq, Repr

/-- The moves into a whole accumulator, or into a part of one that is not named by a register code. -/
def accDestView (i : Instr) : Option (AccValue × AB) :=
  match i with
  | .movRegReg .a0 .p => some (.product, .a0)
  | .movRegReg .a1 .p => some (.product, .a1)
  | .movAccAcc src d => some (.acc src, d)
  | .movRegB b r => some (.full (.reg r), b.ab)
  | .movXAcc d => some (.full .x, d)
  | .movIndB b n m => some (.full (.ind n m), b.ab)
  | .movDirectAcc d a => some (.full (.data (.direct a)), d)
  | .movDirectPart .b0l a => some (.low (.data (.direct a)), .b0)
  | .movDirectPart .b0h a => some (.high (.data (.direct a)), .b0)
  | .movDirectPart .b1l a => some (.low (.data (.direct a)), .b1)
  | .movDirectPart .b1h a => some (.high (.data (.direct a)), .b1)
  | .movDirectPart .a0l a => some (.low (.data (.direct a)), .a0)
  | .movDirectPart .a0h a => some (.high (.data (.direct a)), .a0)
  | .movDirectPart .a1l a => some (.low (.data (.direct a)), .a1)
  | .movDirectPart .a1h a => some (.high (.data (.direct a)), .a1)
  | .movDirectHighEu d a => some (.highKeep (.data (.direct a)), d.ab)
  | .movDirLongA d v => some (.full (.data (.dirLong v)), d.ab)
  | .movLongB b v => some (.full (.imm v), b.ab)
  | .movShortLow d v => some (.low (.imm (v.setWidth 16)), d.ab)
  | .movShortHigh d v => some (.high (.imm (v.signExtend 16)), d.ab)
  | .movIdx7A d o => some (.full (.data (.idx7 o)), d.ab)
  | .movIdx16A d v => some (.full (.data (.idx16 v)), d.ab)
  | .movRepcB0 => some (.full .repc, .b0)
  | .movRepcB1 => some (.full .repc, .b1)
  | .movRepcA0 => some (.full .repc, .a0)
  | .movRepcA1 => some (.full .repc, .a1)
  | .movDvmB0 => some (.full .dvm, .b0)
  | .movDvmB1 => some (.full .dvm, .b1)
  | .movDvmA0 => some (.full .dvm, .a0)
  | .movDvmA1 => some (.full .dvm, .a1)
  | _ => none

/-- Where a move or a push stores (43_move.md): a data address, the address in rN with its post-modification, the stack. -/
inductive Target where
  | direct (a : BitVec 8)
  | long (v : Word)
  | idx7 (o : BitVec 7)
  | idx16 (v : Word)
  | ind (n : RN) (m : PostMod)
  | push
  deriving DecidableEq, Repr

/-- The moves and pushes that store a word in data memory. -/
def memDestView (i : Instr) : Option (WordSrc × Target) :=
  match i with
  | .movRegInd r n m => some (.reg r, .ind n m)
  | .movRnDirect n a => some (.reg n.reg, .direct a)
  | .movPartDirect .b0l a => some (.part .b0 false, .direct a)
  | .movPartDirect .b0h a => some (.part .b0 true, .direct a)
  | .movPartDirect .b1l a => some (.part .b1 false, .direct a)
  | .movPartDirect .b1h a => some (.part .b1 true, .direct a)
  | .movPartDirect .a0l a => some (.part .a0 false, .direct a)
  | .movPartDirect .a0h a => some (.part .a0 true, .direct a)
  | .movPartDirect .a1l a => some (.part .a1 false, .direct a)
  | .movPartDirect .a1h a => some (.part .a1 true, .direct a)
  | .movSvDirect a => some (.reg .sv, .direct a)
  | .movLowDirLong d v => some (.part d.ab false, .long v)
  | .movLowIdx7 d o => some (.part d.ab false, .idx7 o)
  | .movLowIdx16 d v => some (.part d.ab false, .idx16 v)
  | .pushReg r => some (.reg r, .push)
  | .pushLong v => some (.imm v, .push)
  | _ => none

/-- The registers outside REG that a move writes, and sv (43_move.md R337, R346, R350 to R352, R357). -/
inductive Special where
  | mixp | sv | icr | x | dvm
  deriving DecidableEq, Repr

/-- The moves into mixp, sv, icr, x, dvm. -/
def specialView (i : Instr) : Option (WordSrc × Special) :=
  match i with
  | .movRegMixp r => some (.reg r, .mixp)
  | .movDirectSv a => some (.data (.direct a), .sv)
  | .movRegIcr r => some (.reg r, .icr)
  | .movImmIcr v => some (.imm (v.setWidth 16), .icr)
  | .movB0lX => some (.part .b0 false, .x)
  | .movB1lX => some (.part .b1 false, .x)
  | .movA0lX => some (.part .a0 false, .x)
  | .movA1lX => some (.part .a1 false, .x)
  | .movB0lDvm => some (.part .b0 false, .dvm)
  | .movB1lDvm => some (.part .b1 false, .dvm)
  | .movA0lDvm => some (.part .a0 false, .dvm)
  | .movA1lDvm => some (.part .a1 false, .dvm)
  | _ => none

/-- `movr` in its three forms. -/
def roundView (i : Instr) : Option (Src × AB) :=
  match i with
  | .movrReg d r => some (.reg r, d.ab)
  | .movrInd d n m => some (.ind n m, d.ab)
  | .movrIndPart d q m => some (.ind q.rn m, d)
  | _ => none

/-- The count of a `rep` or a `bkrep`: an immediate or a register (R400, R401, R404, R405). -/
inductive Count where
  | imm (v : BitVec 8)
  | reg (r : Reg)
  deriving DecidableEq, Repr

/-- `rep` in its two forms. -/
def repView (i : Instr) : Option (Count) :=
  match i with
  | .repShort v => some (.imm v)
  | .repReg r => some (.reg r)
  | _ => none

/-- `bkrep` in its two forms: the count, the last address. -/
def bkrepView (i : Instr) : Option (Count × Word) :=
  match i with
  | .bkrepShort v w2 => some (.imm v, w2)
  | .bkrepReg r w2 => some (.reg r, w2)
  | _ => none

/-- The target of a branch or a call (R421 to R425), in the state the instruction executes in: pc is the address after it. -/
inductive Goal where
  | word (v : Word)
  | relative (o : BitVec 7)
  | low (d : AX)
  deriving DecidableEq, Repr

/-- `br`, `brr`. -/
def branchView (i : Instr) : Option (Cond × Goal) :=
  match i with
  | .br c v => some (c, .word v)
  | .brr o c => some (c, .relative o)
  | _ => none

/-- `call`, `callr`, `calla`. -/
def callView (i : Instr) : Option (Cond × Goal) :=
  match i with
  | .call c v => some (c, .word v)
  | .callr o c => some (c, .relative o)
  | .callaA0 => some (.always, .low .a0)
  | .callaA1 => some (.always, .low .a1)
  | _ => none

/-! ### Operands of the multiplies -/

/-- The operands can be read; the two addresses of a dual form are in their spaces (R86). -/
def factorsReady (f : Factors) (s : State) : Bool :=
  match f with
  | .y x => ready x s
  | .dual j _ i _ =>
    decide (s.chip.yramconf.toNat * 1024 ≤ (s.ptr j.rn).toNat) && decide ((s.ptr i.rn).toNat < s.chip.yramconf.toNat * 1024) &&
      s.readable (s.ptr j.rn) && s.readable (s.ptr i.rn)
  | .long n _ _ => s.readable (s.ptr n)
  | .short _ => true
  | .square x => ready x s

/-- The new y (R261). -/
def factorY (f : Factors) (s : State) : Word :=
  match f with
  | .y _ => s.mul.y
  | .dual j _ _ _ => Memory.word s.dmem (s.ptr j.rn)
  | .long n _ _ => Memory.word s.dmem (s.ptr n)
  | .short _ => s.mul.y
  | .square x => value x s

/-- The new x (R261). -/
def factorX (f : Factors) (s : State) : Word :=
  match f with
  | .y x => value x s
  | .dual _ _ i _ => Memory.word s.dmem (s.ptr i.rn)
  | .long _ _ v => v
  | .short v => v.signExtend 16
  | .square x => value x s

/-- The state after the operands are read. -/
def factorsRest (f : Factors) (s : State) : State :=
  match f with
  | .y x => rest x s
  | .dual j jm i im => (s.bump j.rn jm).bump i.rn im
  | .long n m _ => s.bump n m
  | .short _ => s
  | .square x => rest x s

/-- A factor as an integer. -/
def factor (k : Sign) (v : Word) : Int :=
  match k with
  | .signed => v.toInt
  | .unsigned => v.toNat

/-- The multiplier after y and x are loaded and multiplied (R260): pu only for unsigned by unsigned. -/
def multiplied (ym xm : Sign) (y x : Word) : Multiplier :=
  { x := x, y := y, p := BitVec.ofInt 32 (factor ym y * factor xm x), pu := ym == .unsigned && xm == .unsigned }

/-- The accumulation of the previous product (R264, R268, R270). -/
def accumulated (a : Accumulation) (f : Flags) (x : Acc) (p : Int) : Acc × Flags :=
  match a with
  | .add => plus f x p
  | .aligned => plus f x (p / 65536)
  | .sub => minus f x p

/-! ### Results of the other families -/

/-- The result of a logic function, bit by bit (R206 to R208). -/
def logicBit (op : AluOp) (a b : Bool) : Bool :=
  match op with
  | .or => a || b
  | .and => a && b
  | _ => a != b

/-- The 16-bit result of a read-modify-write (R214, R215, R301 to R303). -/
def rmwResult (op : RmwOp) (a v : Word) : Word :=
  match op with
  | .addv => a + v
  | .subv => a - v
  | .set => a ||| v
  | .rst => a &&& ~~~v
  | .chng => a ^^^ v

/-- The flags of a read-modify-write (R217: of the sign-extended operands; R300: Z and M of the result). -/
def rmwFlags (op : RmwOp) (f : Flags) (a v : Word) : Flags :=
  match op with
  | .addv => (plus f (BitVec.ofInt 36 a.toInt) v.toInt).2
  | .subv => (minus f (BitVec.ofInt 36 a.toInt) v.toInt).2
  | .set | .rst | .chng =>
    { f with z := decide (rmwResult op a v = 0), m := (rmwResult op a v).getLsbD 15 }

/-- The accumulator and the flags after the other functions of `moda` and `modb` (R225 to R233, R324); none for the
shifts and rotations. -/
def accFn (fn : ModFn) (x other : Acc) (p : Int) (f : Flags) : Option (Acc × Flags) :=
  let plain (r : Acc) : Acc × Flags := (r, zmne f r)
  match fn with
  | .clr => some (plain 0)
  | .not => some (plain (BitVec.ofInt 36 (-x.toInt - 1)))
  | .neg => some (minus f 0 x.toInt)
  | .rnd => some (plus f x 0x8000)
  | .pacr => some (plus f (BitVec.ofInt 36 p) 0x8000)
  | .clrr => some (plain 0x8000)
  | .inc => some (plus f x 1)
  | .dec => some (minus f x 1)
  | .copy => some (plain other)
  | .shr | .shr4 | .shl | .shl4 | .ror | .rol => none

/-- The other accumulator of the pair. -/
def mate (i : AB) : AB :=
  match i with
  | .a0 => .a1 | .a1 => .a0 | .b0 => .b1 | .b1 => .b0

/-- The outcome of a contest. -/
def Contest.won (c : Contest) (new old : Int) : Bool :=
  match c with
  | .ge => decide (old ≤ new)
  | .gt => decide (old < new)
  | .le => decide (new ≤ old)
  | .lt => decide (new < old)

/-- What the mask of a test selects: bit k is under the mask (R304 to R308). -/
def Probe.covers (q : Probe) (s : State) (k : Nat) : Bool :=
  match q with
  | .zerosLow d | .onesLow d => (s.accs.get d.ab).getLsbD k
  | .zeros v | .ones v => v.getLsbD k
  | .bit b => decide (k = b.toNat)

/-- The value of the selected bits that sets Z (R304 to R308). -/
def Probe.wanted (q : Probe) : Bool :=
  match q with
  | .zerosLow _ | .zeros _ => false
  | .onesLow _ | .ones _ | .bit _ => true

/-- What is shifted. -/
def shifteeValue (x : Shiftee) (s : State) : Acc :=
  match x with
  | .acc i => s.accs.get i
  | .word x => BitVec.ofInt 36 (value x s).toInt

/-- What is shifted can be read. -/
def shifteeReady (x : Shiftee) (s : State) : Bool :=
  match x with
  | .acc _ => true
  | .word x => ready x s

/-- The state after what is shifted is read. -/
def shifteeRest (x : Shiftee) (s : State) : State :=
  match x with
  | .acc _ => s
  | .word x => rest x s

/-- The shift count: the immediate, or sv (R291). -/
def shiftCount (k : Option (BitVec 6)) (s : State) : Int :=
  match k with
  | some v => v.toInt
  | none => s.sv.toInt

/-- The evaluated number of `exp` (R310). -/
def measuredValue (x : Measured) (s : State) : Acc :=
  match x with
  | .acc i => s.accs.get i
  | .word x => BitVec.ofInt 36 ((value x s).toInt * 65536)

/-- The evaluated number can be read. -/
def measuredReady (x : Measured) (s : State) : Bool :=
  match x with
  | .acc _ => true
  | .word x => ready x s

/-- The state after the evaluated number is read. -/
def measuredRest (x : Measured) (s : State) : State :=
  match x with
  | .acc _ => s
  | .word x => rest x s

/-- n is the number of leading bits of x that equal bit 35 (R310). -/
def signBits (x : Acc) (n : Nat) : Prop :=
  1 ≤ n ∧ n ≤ 36 ∧ (∀ k, k < n → x.getLsbD (35 - k) = x.getLsbD 35) ∧
    (n = 36 ∨ x.getLsbD (35 - n) ≠ x.getLsbD 35)

/-- What a move puts into an accumulator can be read. -/
def accValueReady (v : AccValue) (s : State) : Bool :=
  match v with
  | .full w | .low w | .high w | .highKeep w => srcReady w s
  | .acc _ | .product => true

/-- The new accumulator of a move (R30, R331, R332, R345). -/
def accValue (v : AccValue) (i : AB) (s : State) : Acc :=
  match v with
  | .full w => BitVec.ofInt 36 (srcValue w s).toInt
  | .low w => BitVec.ofNat 36 (srcValue w s).toNat
  | .high w => BitVec.ofInt 36 ((srcValue w s).toInt * 65536)
  | .highKeep w => (s.accs.get i &&& 0xF00000000) ||| BitVec.ofNat 36 ((srcValue w s).toNat * 65536)
  | .acc j => s.accs.get j
  | .product => BitVec.ofInt 36 (shiftedProduct s)

/-- The state after what a move puts into an accumulator is read. -/
def accValueRest (v : AccValue) (s : State) : State :=
  match v with
  | .full w | .low w | .high w | .highKeep w => srcRest w s
  | .acc _ | .product => s

/-- The data address a move or a push stores to (R100, R101, R103, R104, R102, R110). -/
def targetAddr (t : Target) (s : State) : Word :=
  match t with
  | .direct a => s.stat.page ++ a
  | .long v => v
  | .idx7 o => s.dau.rb + o.signExtend 16
  | .idx16 v => s.dau.rb + v
  | .ind n _ => s.ptr n
  | .push => s.dau.sp - 1

/-- The registers after the store: rN post-modified, sp moved. -/
def targetRest (t : Target) (s : State) : State :=
  match t with
  | .ind n m => s.bump n m
  | .push => { s with dau := { s.dau with sp := s.dau.sp - 1 } }
  | .direct _ | .long _ | .idx7 _ | .idx16 _ => s

/-- icr after v is written to it (R44). -/
def icrWritten (i : Icr) (v : Word) : Icr :=
  { ic2 := v.getLsbD 3, ic1 := v.getLsbD 2, ic0 := v.getLsbD 1, nmic := v.getLsbD 0
    bc := if v.getLsbD 4 then 0 else i.bc
    lp := i.lp && !v.getLsbD 4 }

/-- The state after v is written to one of the special registers. -/
def specialWritten (s : State) (t : Special) (v : Word) : State :=
  match t with
  | .mixp => { s with dau := { s.dau with mixp := v } }
  | .sv => { s with sv := v }
  | .icr => { s with icr := icrWritten s.icr v }
  | .x => { s with mul := { s.mul with x := v } }
  | .dvm => { s with dvm := v }

/-- The accumulators after a `swap` (R390): where the new a0, a1, b0, b1 come from, and whose new value the flags describe. -/
def swapSources (o : SwapOp) : (AB × AB × AB × AB) × AB :=
  match o with
  | .a0b0 => ((.b0, .a1, .a0, .b1), .b0)
  | .a0b1 => ((.b1, .a1, .b0, .a0), .b1)
  | .a1b0 => ((.a0, .b0, .a1, .b1), .b0)
  | .a1b1 => ((.a0, .b1, .b0, .a1), .b1)
  | .a0b0a1b1 => ((.b0, .b1, .a0, .a1), .b0)
  | .a0b1a1b0 => ((.b1, .b0, .a1, .a0), .b1)
  | .a0b0a1 => ((.a0, .b0, .a0, .b1), .b0)
  | .a0b1a1 => ((.a0, .b1, .b0, .a0), .b1)
  | .a1b0a0 => ((.b0, .a1, .a1, .b1), .b0)
  | .a1b1a0 => ((.b1, .a1, .b0, .a1), .b1)
  | .b0a0b1 => ((.b0, .a1, .b0, .a0), .b0)
  | .b0a1b1 => ((.a0, .b0, .b0, .a1), .b0)
  | .b1a0b0 => ((.b1, .a1, .a0, .b1), .b1)
  | .b1a1b0 => ((.a0, .b1, .a1, .b1), .b1)

/-- The count can be read. -/
def countReady (c : Count) (s : State) : Bool :=
  match c with
  | .imm _ => true
  | .reg r => regReady r s

/-- The count (R400, R401). -/
def countValue (c : Count) (s : State) : Word :=
  match c with
  | .imm v => v.setWidth 16
  | .reg r => s.regValue r

/-- The state after the count is read. -/
def countRest (c : Count) (s : State) : State :=
  match c with
  | .imm _ => s
  | .reg r => s.afterRead r

/-- The target of a branch or a call. -/
def goal (g : Goal) (s : State) : Word :=
  match g with
  | .word v => v
  | .relative o => BitVec.ofInt 16 (s.pc.toNat + o.toInt)
  | .low d => (s.accs.get d.ab).setWidth 16

/-- The post-modified value of a pointer (R105, R106); `modulo` says whether the modulo option applies. -/
def nextPointer (s : State) (n : RN) (m : PostMod) (modulo : Bool) : Word :=
  let move (q : Int) : Word :=
    if modulo then moduloStep (s.ptr n) q ((s.cfg n).toNat / 128) else BitVec.ofInt 16 ((s.ptr n).toNat + q)
  match m with
  | .none => s.ptr n
  | .inc => move 1
  | .dec => move (-1)
  | .step => move ((s.cfg n).extractLsb' 0 7).toInt

/-- `reti` and `retid` end the innermost service state (R432, R440). -/
def served (s : State) : State :=
  { s with
    stat := { s.stat with ie := true }
    svc := { s.svc with inTrap := false, inNmi := if s.svc.inTrap then s.svc.inNmi else false } }

/-- Context store (R462). -/
def saved (s : State) : State :=
  { s with
    shadow := { flags := s.flags, im0 := s.stat.im0, im1 := s.stat.im1, sat := s.stat.sat, ps := s.stat.ps,
                s := s.stat.s, im2 := s.stat.im2, modulo := s.stat.modulo, altPage := s.stat.page }
    stat := { s.stat with page := s.shadow.altPage }
    accs := { s.accs with a1 := s.accs.b1, b1 := s.accs.a1 }
    flags := zmne s.flags s.accs.b1 }

/-- Context restore (R463): IE, OU1 and OU0 are not restored. -/
def restored (s : State) : State :=
  { s with
    flags := s.shadow.flags
    stat := { im0 := s.shadow.im0, im1 := s.shadow.im1, im2 := s.shadow.im2, ie := s.stat.ie, sat := s.shadow.sat,
              ps := s.shadow.ps, page := s.shadow.altPage, ou1 := s.stat.ou1, ou0 := s.stat.ou0, s := s.shadow.s,
              modulo := s.shadow.modulo }
    shadow := { s.shadow with altPage := s.stat.page }
    accs := { s.accs with a1 := s.accs.b1, b1 := s.accs.a1 } }

/-- The vector of a source (R98). -/
def vectorOf (k : Source) : Word :=
  match k with
  | .trap | .bi => 2
  | .nmi => 4
  | .int0 => 6
  | .int1 => 14
  | .int2 => 22

/-- The repeat state after an entry at pc (R403): a running repeat is put aside. -/
def putAside (l : Loops) (pc : Word) : Loops :=
  if l.repActive then { l with repActive := false, repSavedActive := true, repSavedC := l.repc, repSavedAddr := pc } else l

/-- The register that `mov` of anything but a ##long immediate, `movp` or a read-modify-write leaves written, `pop` apart
(R522). -/
def softDest (i : Instr) : Option Reg :=
  match i with
  | .movRegReg d _ => some d
  | .movMixpReg r | .movIndReg r _ _ | .movSpReg r | .movpLowReg _ r => some r
  | .setReg r _ | .rstReg r _ | .chngReg r _ | .addvReg r _ | .subvReg r _ => some r
  | _ => none

/-- A read-modify-write of a register. -/
def isRewrite (i : Instr) : Bool :=
  match i with
  | .setReg _ _ | .rstReg _ _ | .chngReg _ _ | .addvReg _ _ | .subvReg _ _ => true
  | _ => false

/-- The cycles that Table 5B holds a source off after an instruction that is no last repetition and not the first after a
return from TRAP/BI (R522). -/
def tableHold (i : Instr) (s : State) (k : Source) : Nat :=
  let popped (r : Reg) : Bool := match i with | .popReg q => q == r | _ => false
  let long (r : Reg) : Bool := match i with | .movLongReg q _ => q == r | _ => false
  let soft (r : Reg) : Bool := softDest i == some r
  let missed : Bool :=
    match i with
    | .br c _ | .call c _ | .ret c | .reti _ c => !holds c s
    | _ => false
  let maskable : Bool := k == .int0 || k == .int1 || k == .int2
  let isRep : Bool := match i with | .repShort _ | .repReg _ => true | _ => false
  let isDelayed : Bool := match i with | .retd | .retid => true | _ => false
  if isRep || isDelayed || (soft .pc && !isRewrite i) || popped .pc then 2
  else if maskable && (soft .st0 || popped .st0) then 2
  else if k == .int2 && (soft .st2 || popped .st2) then 2
  else if long .pc then 1
  else if maskable && long .st0 then 1
  else if k == .int2 && long .st2 then 1
  else if k != .bi && (missed || soft .sp) then 1
  else 0

/-- The machine state a step leaves, with what follows the instruction (Sys2Proof/Machine/Boundary.lean) applied to the
outcome of its meaning. -/
def finished (o : Out) (s : State) (t : Traits) : Out :=
  match o with
  | .next u => .next (u.finish s t)
  | .fault f => .fault f
  | .refused r => .refused r

/-- k is the number of low bits the modulo unit works on (R106): M = 2^k if M = MOD + |q| is a power of two, otherwise the
least k with 2^k > MOD. -/
def moduloWidth (modx : Nat) (q : Int) (k : Nat) : Prop :=
  modx + q.natAbs = 2 ^ k ∨
    (∀ j, modx + q.natAbs ≠ 2 ^ j) ∧ modx < 2 ^ k ∧ ∀ j, j < k → 2 ^ j ≤ modx

/-! ### Acceptance -/

/-- The boundary is open for the source (R520). -/
def openFor (s : State) (k : Source) : Bool :=
  (k == .bi || s.svc.started) && !(k == .nmi && s.svc.inBoot) && !(s.loops.repActive && s.loops.repSavedActive) &&
  s.svc.dret.isNone && decide (s.svc.hold.of k = 0) && !s.svc.atVector

/-- The source is requested, enabled and not shut out by the routine under way (R503). -/
def wanted (s : State) (k : Source) : Bool :=
  match k with
  | .bi => s.pins.bi && !s.svc.inTrap
  | .nmi => s.pins.nmi && !s.svc.inTrap && !s.svc.inNmi
  | .int0 => s.pins.int0 && s.stat.im0 && s.stat.ie && !s.svc.inTrap && !s.svc.inNmi
  | .int1 => s.pins.int1 && s.stat.im1 && s.stat.ie && !s.svc.inTrap && !s.svc.inNmi
  | .int2 => s.pins.int2 && s.stat.im2 && s.stat.ie && !s.svc.inTrap && !s.svc.inNmi
  | .trap => false

/-- The order among the sources (R504). -/
def rank (k : Source) : Nat :=
  match k with
  | .bi => 0 | .nmi => 1 | .int0 => 2 | .int1 => 3 | .int2 => 4 | .trap => 5

/-! ### Sequences and placements -/

/-- The second word is there (R162). -/
def twoWords (i : Instr) : Bool := (encodeSecond i).isSome

/-- The cycles of an instruction on the flags before it (R640): the words, but for the instructions named. -/
def cycleCount (i : Instr) (s : State) : Nat :=
  match i with
  | .br c _ | .call c _ | .ret c | .reti _ c => if holds c s then 3 else 2
  | .brr _ _ | .callr _ _ | .norm _ _ _ | .trap => 2
  | .rets _ | .callaA0 | .callaA1 | .movpLowReg _ _ | .movpIndInd _ _ _ _ => 3
  | .movd _ _ _ _ => 4
  | _ => if twoWords i then 2 else 1

/-- The register an instruction writes by code. -/
def namedDest (i : Instr) : Option Reg :=
  match i with
  | .movDirectRn n _ | .movShortRn n _ => some n.reg
  | .movShortExt e _ => some e.reg
  | .movShortSv _ => some .sv
  | .popReg r | .movLongReg r _ => some r
  | _ => softDest i

/-- The register an instruction reads by code. -/
def namedSource (i : Instr) : Option Reg :=
  match i with
  | .orReg _ r | .andReg _ r | .xorReg _ r | .addReg _ r | .subReg _ r | .cmpReg _ r | .addhReg _ r | .addlReg _ r
  | .subhReg _ r | .sublReg _ r | .cmpuReg _ r | .tst0Reg _ r | .tst1Reg _ r | .tstbReg _ r | .tst0LongReg r _
  | .tst1LongReg r _ | .setReg r _ | .rstReg r _ | .chngReg r _ | .addvReg r _ | .subvReg r _ | .cmpvReg r _
  | .mpyYReg r | .mpysuYReg r | .macYReg _ r | .macusYReg _ r | .maaYReg _ r | .macuuYReg _ r | .macsuYReg _ r
  | .maasuYReg _ r | .msuYReg _ r | .sqrReg r | .sqraReg _ r | .expRegA _ r | .expRegSv r | .movRegReg _ r
  | .movRegB _ r | .movRegMixp r | .movRegInd r _ _ | .movRegIcr r | .movsReg _ r | .movrReg _ r | .pushReg r
  | .repReg r | .bkrepReg r _ => some r
  | _ => none

/-- An operand in index addressing (R103, R104). -/
def indexed (i : Instr) : Bool :=
  match i with
  | .orIdx7 _ _ | .andIdx7 _ _ | .xorIdx7 _ _ | .addIdx7 _ _ | .cmpIdx7 _ _ | .subIdx7 _ _ | .movIdx7A _ _
  | .movLowIdx7 _ _ | .orIdx16 _ _ | .andIdx16 _ _ | .xorIdx16 _ _ | .addIdx16 _ _ | .cmpIdx16 _ _ | .subIdx16 _ _
  | .movIdx16A _ _ | .movLowIdx16 _ _ => true
  | _ => false

/-- `retd`, `retid`. -/
def delays (i : Instr) : Bool := match i with | .retd | .retid => true | _ => false

/-- `trap`. -/
def isTrap (i : Instr) : Bool := match i with | .trap => true | _ => false

/-- `break`. -/
def isBreak (i : Instr) : Bool := match i with | .breakLoop => true | _ => false

/-- `bkrep`. -/
def opensLoop (i : Instr) : Bool := match i with | .bkrepShort _ _ | .bkrepReg _ _ => true | _ => false

/-- `rep`. -/
def repeats (i : Instr) : Bool := match i with | .repShort _ | .repReg _ => true | _ => false

/-- `mov REG, icr`, `mov #imm5, icr`. -/
def writesIcr (i : Instr) : Bool := match i with | .movRegIcr _ | .movImmIcr _ => true | _ => false

/-- `mov icr, AB`. -/
def readsIcr (i : Instr) : Bool := match i with | .movIcrAcc _ => true | _ => false

/-- `mov mixp, REG`. -/
def readsMixp (i : Instr) : Bool := match i with | .movMixpReg _ => true | _ => false

/-- `max`, `maxd`, `min`. -/
def seeksExtreme (i : Instr) : Bool := match i with | .max _ _ _ | .maxd _ _ _ | .min _ _ _ => true | _ => false

/-- The branches, calls and returns (45_branch.md). -/
def transfers (i : Instr) : Bool :=
  match i with
  | .br _ _ | .brr _ _ | .call _ _ | .callr _ _ | .callaA0 | .callaA1 | .ret _ | .reti _ _ | .rets _ | .retd | .retid => true
  | _ => false

/-- `mov repc, AB`. -/
def readsRepc (i : Instr) : Bool :=
  match i with
  | .movRepcB0 | .movRepcB1 | .movRepcA0 | .movRepcA1 => true
  | _ => false

/-- pc is the destination (R622). -/
def writesPc (i : Instr) : Bool := namedDest i == some .pc

/-- `mov ##long immediate, REG`. -/
def movesLong (i : Instr) : Bool := match i with | .movLongReg _ _ => true | _ => false

/-- What an instruction leaves for the check of the next (R621, R623, R624, R626). -/
def marks (i : Instr) : Previous :=
  { wroteRb := namedDest i == some .rb && !movesLong i
    wroteSp := softDest i == some .sp
    wroteIcr := writesIcr i
    wasMinMax := seeksExtreme i }

/-- The instruction may not be repeated (R402). -/
def unrepeatable (i : Instr) : Bool :=
  twoWords i || transfers i || repeats i || isTrap i || readsRepc i || writesPc i

/-- The instruction may not stand in a delay slot with `left` cycles left (R442). -/
def unfitForSlot (i : Instr) (left : Nat) (s : State) : Bool :=
  decide (left < cycleCount i s) || transfers i || repeats i || opensLoop i || isTrap i || writesPc i

/-- The instruction may not start k words before the last address of a loop: the table of R407. -/
def barred (i : Instr) (k : Nat) : Bool :=
  match k with
  | 0 => isBreak i || atEnd || writesIcr i
  | 1 => writesIcr i || atEnd
  | 2 => namedDest i == some .lc || writesIcr i || writesPc i
  | 3 => isRewrite i && namedDest i == some .lc
  | _ => false
where
  /-- What may start neither at the last address nor one before it. -/
  atEnd : Bool :=
    transfers i || opensLoop i || repeats i || isTrap i || writesPc i || namedDest i == some .lc ||
    namedSource i == some .lc || readsIcr i

/-- The instruction that starts at a stands where R407 bars it from a loop that ends at `last`. -/
def misplaced (i : Instr) (a last : Word) : Bool :=
  barred i 0 && a == last || barred i 1 && a + 1 == last || barred i 2 && a + 2 == last || barred i 3 && a + 3 == last

/-- A `nop` stands at the program address (R450, R622). -/
def nopStands (s : State) (a : Word) : Bool := s.progReadable a && decide ((Memory.word s.pmem a).toNat < 32)

/-- pc is written and the `nop` words behind the instruction are missing (R622): one for `mov ##long immediate`, else two. -/
def unpadded (i : Instr) (s : State) : Bool :=
  writesPc i && !(nopStands s s.pc && (movesLong i || nopStands s (s.pc + 1)))

/-- The instruction at a is forbidden here, and why: in the order in which the model names the reasons. -/
def forbidden (i : Instr) (a : Word) (s : State) : List (Bool × Refusal) :=
  [(s.svc.prev.wroteRb && indexed i, .indexAfterRb),
   (s.svc.prev.wroteSp && delays i, .delayedReturnAfterSp),
   (s.svc.prev.wroteIcr && opensLoop i, .blockRepeatAfterIcr),
   (s.svc.prev.wasMinMax && readsMixp i, .mixpAfterMinMax),
   (s.loops.repActive && unrepeatable i, .notRepeatable),
   (s.svc.dret.any (fun d => unfitForSlot i d.left s), .notInDelaySlot),
   (s.icr.lp && misplaced i a (s.loops.level s.icr.bc.toNat).last, .loopPlacement),
   (unpadded i s, .paddingNotNop)]

/-- IC2, IC1, IC0, NMIC (R43, R73). -/
def contextBits (i : Icr) : BitVec 4 :=
  BitVec.ofNat 4 (8 * i.ic2.toNat + 4 * i.ic1.toNat + 2 * i.ic0.toNat + i.nmic.toNat)

/-- An accumulator with a new extension nibble (R21, R63). -/
def extended (x : Acc) (n : Nat) : Acc := BitVec.ofNat 36 (n * 2 ^ 32 + x.toNat % 2 ^ 32)

/-- A repeat runs over this instruction and ends with it (R402): the last repetition. -/
def lastRepetition (i : Instr) (s t : State) : Prop :=
  s.loops.repActive = true ∧ (t.control s (Instr.traits i) s.pc).loops.repActive = false

/-- The select code of a user-defined register (R38, R112). -/
def userCode (r : Reg) : Option Word :=
  match r with
  | .ext0 => some 0
  | .ext1 => some 1
  | .ext2 => some 2
  | .ext3 => some 3
  | .r0 | .r1 | .r2 | .r3 | .r4 | .r5 | .rb | .y | .st0 | .st1 | .st2 | .p | .pc | .sp | .cfgi | .cfgj
  | .b0h | .b1h | .b0l | .b1l | .a0 | .a1 | .a0l | .a1l | .a0h | .a1h | .lc | .sv => none

/-- What the chip makes of the user-defined register with a select code (R5, D12). -/
def userKind (c : Chip) (n : Word) : ExtKind :=
  if n = 0 then c.ext0Kind else if n = 1 then c.ext1Kind else if n = 2 then c.ext2Kind else c.ext3Kind

/-- The word that a plain user-defined register holds (R38). -/
def userWord (e : ExtRegs) (n : Word) : Word :=
  if n = 0 then e.ext0 else if n = 1 then e.ext1 else if n = 2 then e.ext2 else e.ext3

/-- The pointers with one of r0 to r5 replaced and nothing else. -/
def pointersWith (d : Pointers) (n : RN) (v : Word) : Pointers :=
  match n with
  | .r0 => { d with r0 := v }
  | .r1 => { d with r1 := v }
  | .r2 => { d with r2 := v }
  | .r3 => { d with r3 := v }
  | .r4 => { d with r4 := v }
  | .r5 => { d with r5 := v }

/-- The state with the one field that a plain register code names replaced and nothing else (R63); none for the codes whose
write has parts of its own: st0, st1, st2, p, the accumulators and their parts, the user-defined registers. -/
def fieldWrite (s : State) (r : Reg) (v : Word) : Option State :=
  match r with
  | .r0 => some { s with dau := { s.dau with r0 := v } }
  | .r1 => some { s with dau := { s.dau with r1 := v } }
  | .r2 => some { s with dau := { s.dau with r2 := v } }
  | .r3 => some { s with dau := { s.dau with r3 := v } }
  | .r4 => some { s with dau := { s.dau with r4 := v } }
  | .r5 => some { s with dau := { s.dau with r5 := v } }
  | .rb => some { s with dau := { s.dau with rb := v } }
  | .sp => some { s with dau := { s.dau with sp := v } }
  | .cfgi => some { s with dau := { s.dau with cfgi := v } }
  | .cfgj => some { s with dau := { s.dau with cfgj := v } }
  | .y => some { s with mul := { s.mul with y := v } }
  | .pc => some { s with pc := v }
  | .lc => some { s with loops := { s.loops with lc := v } }
  | .sv => some { s with sv := v }
  | .st0 | .st1 | .st2 | .p | .b0h | .b1h | .b0l | .b1l | .ext0 | .ext1 | .ext2 | .ext3 | .a0 | .a1 | .a0l | .a1l | .a0h
  | .a1h => none

/-- A pattern of R150 to R155: the first word w has it when w AND `mask` is `bits`; `ignored` are its bits printed as dots,
and the A bit of `mpy`, `mpysu`, `sqr` (D20); `pointer` where bits 2..0 are a plain rN field (R137). -/
structure Pattern where
  mask : Nat
  bits : Nat
  ignored : Nat
  pointer : Bool
  deriving DecidableEq, Repr

/-- Patterns of R150 to R155, in the order of spec/opcode_table.json. -/
def patterns1 : List Pattern := [
  ⟨0xFCE4, 0x8864, 0x0000, false⟩, ⟨0xFE00, 0xA000, 0x0000, false⟩, ⟨0xFEE0, 0x8080, 0x0000, true⟩, ⟨0xFEE0, 0x80A0, 0x0000, false⟩,
  ⟨0xFE00, 0xA200, 0x0000, false⟩, ⟨0xFEE0, 0x8280, 0x0000, true⟩, ⟨0xFEE0, 0x82A0, 0x0000, false⟩, ⟨0xFE00, 0xA400, 0x0000, false⟩,
  ⟨0xFEE0, 0x8480, 0x0000, true⟩, ⟨0xFEE0, 0x84A0, 0x0000, false⟩, ⟨0xFE00, 0xA600, 0x0000, false⟩, ⟨0xFEE0, 0x8680, 0x0000, true⟩,
  ⟨0xFEE0, 0x86A0, 0x0000, false⟩, ⟨0xFE00, 0xA800, 0x0000, false⟩, ⟨0xFEE0, 0x8880, 0x0000, true⟩, ⟨0xFEE0, 0x88A0, 0x0000, false⟩,
  ⟨0xFE00, 0xAA00, 0x0000, false⟩, ⟨0xFEE0, 0x8A80, 0x0000, true⟩, ⟨0xFEE0, 0x8AA0, 0x0000, false⟩, ⟨0xFE00, 0xAC00, 0x0000, false⟩,
  ⟨0xFEE0, 0x8C80, 0x0000, true⟩, ⟨0xFEE0, 0x8CA0, 0x0000, false⟩, ⟨0xFE00, 0xAE00, 0x0000, false⟩, ⟨0xFEE0, 0x8E80, 0x0000, true⟩,
  ⟨0xFEE0, 0x8EA0, 0x0000, false⟩, ⟨0xFE00, 0xB000, 0x0000, false⟩, ⟨0xFEE0, 0x9080, 0x0000, true⟩, ⟨0xFEE0, 0x90A0, 0x0000, false⟩,
  ⟨0xFE00, 0xB200, 0x0000, false⟩, ⟨0xFEE0, 0x9280, 0x0000, true⟩, ⟨0xFEE0, 0x92A0, 0x0000, false⟩, ⟨0xFE00, 0xB400, 0x0000, false⟩,
  ⟨0xFEE0, 0x9480, 0x0000, true⟩, ⟨0xFEE0, 0x94A0, 0x0000, false⟩, ⟨0xFE00, 0xB600, 0x0000, false⟩, ⟨0xFEE0, 0x9680, 0x0000, true⟩,
  ⟨0xFEE0, 0x96A0, 0x0000, false⟩, ⟨0xFE00, 0xB800, 0x0000, false⟩]

/-- Patterns of R150 to R155, in the order of spec/opcode_table.json. -/
def patterns2 : List Pattern := [
  ⟨0xFEE0, 0x9880, 0x0000, true⟩, ⟨0xFEE0, 0x98A0, 0x0000, false⟩, ⟨0xFE00, 0xBA00, 0x0100, false⟩, ⟨0xFEE0, 0x9A80, 0x0100, true⟩,
  ⟨0xFEE0, 0x9AA0, 0x0100, false⟩, ⟨0xFE00, 0xBC00, 0x0000, false⟩, ⟨0xFEE0, 0x9C80, 0x0000, true⟩, ⟨0xFEE0, 0x9CA0, 0x0000, false⟩,
  ⟨0xFE00, 0xBE00, 0x0000, false⟩, ⟨0xFEE0, 0x9E80, 0x0000, true⟩, ⟨0xFEE0, 0x9EA0, 0x0000, false⟩, ⟨0xFE00, 0xC000, 0x0000, false⟩,
  ⟨0xFEE0, 0x80C0, 0x001F, false⟩, ⟨0xFE80, 0x4000, 0x0000, false⟩, ⟨0xFEFF, 0xD4D8, 0x0000, false⟩, ⟨0xFEFF, 0xD4F8, 0x0000, false⟩,
  ⟨0xFE00, 0xC200, 0x0000, false⟩, ⟨0xFEE0, 0x82C0, 0x001F, false⟩, ⟨0xFE80, 0x4200, 0x0000, false⟩, ⟨0xFEFF, 0xD4D9, 0x0000, false⟩,
  ⟨0xFEFF, 0xD4F9, 0x0000, false⟩, ⟨0xFE00, 0xC400, 0x0000, false⟩, ⟨0xFEE0, 0x84C0, 0x001F, false⟩, ⟨0xFE80, 0x4400, 0x0000, false⟩,
  ⟨0xFEFF, 0xD4DA, 0x0000, false⟩, ⟨0xFEFF, 0xD4FA, 0x0000, false⟩, ⟨0xFE00, 0xC600, 0x0000, false⟩, ⟨0xFEE0, 0x86C0, 0x001F, false⟩,
  ⟨0xFE80, 0x4600, 0x0000, false⟩, ⟨0xFEFF, 0xD4DB, 0x0000, false⟩, ⟨0xFEFF, 0xD4FB, 0x0000, false⟩, ⟨0xFE00, 0xCC00, 0x0000, false⟩,
  ⟨0xFEE0, 0x8CC0, 0x001F, false⟩, ⟨0xFE80, 0x4C00, 0x0000, false⟩, ⟨0xFEFF, 0xD4DE, 0x0000, false⟩, ⟨0xFEFF, 0xD4FE, 0x0000, false⟩,
  ⟨0xFE00, 0xCE00, 0x0000, false⟩, ⟨0xFEE0, 0x8EC0, 0x001F, false⟩]

/-- Patterns of R150 to R155, in the order of spec/opcode_table.json. -/
def patterns3 : List Pattern := [
  ⟨0xFE80, 0x4E00, 0x0000, false⟩, ⟨0xFEFF, 0xD4DF, 0x0000, false⟩, ⟨0xFEFF, 0xD4FF, 0x0000, false⟩, ⟨0xEFF0, 0x6700, 0x0000, false⟩,
  ⟨0xEFF0, 0x6710, 0x0000, false⟩, ⟨0xEFF0, 0x6720, 0x0000, false⟩, ⟨0xEFF0, 0x6730, 0x0000, false⟩, ⟨0xEFF0, 0x6740, 0x0000, false⟩,
  ⟨0xEFF0, 0x6750, 0x0000, false⟩, ⟨0xEFF0, 0x6760, 0x0000, false⟩, ⟨0xEFF0, 0x6780, 0x0000, false⟩, ⟨0xEFF0, 0x6790, 0x0000, false⟩,
  ⟨0xEFF0, 0x67A0, 0x0000, false⟩, ⟨0xEFF0, 0x67B0, 0x0000, false⟩, ⟨0xEFF0, 0x67C0, 0x0000, false⟩, ⟨0xEFF0, 0x67D0, 0x0000, false⟩,
  ⟨0xEFF0, 0x67E0, 0x0000, false⟩, ⟨0xEFF0, 0x67F0, 0x0000, false⟩, ⟨0xFEC0, 0x94C0, 0x0020, true⟩, ⟨0xFE00, 0x0E00, 0x0000, false⟩,
  ⟨0xFFE0, 0x80E0, 0x0000, true⟩, ⟨0xFFE0, 0x81E0, 0x0000, false⟩, ⟨0xFF00, 0xE100, 0x0000, false⟩, ⟨0xFFE0, 0x82E0, 0x0000, true⟩,
  ⟨0xFFE0, 0x83E0, 0x0000, false⟩, ⟨0xFF00, 0xE300, 0x0000, false⟩, ⟨0xFFE0, 0x84E0, 0x0000, true⟩, ⟨0xFFE0, 0x85E0, 0x0000, false⟩,
  ⟨0xFF00, 0xE500, 0x0000, false⟩, ⟨0xFFE0, 0x86E0, 0x0000, true⟩, ⟨0xFFE0, 0x87E0, 0x0000, false⟩, ⟨0xFF00, 0xE700, 0x0000, false⟩,
  ⟨0xFFE0, 0x88E0, 0x0000, true⟩, ⟨0xFFE0, 0x89E0, 0x0000, false⟩, ⟨0xFF00, 0xE900, 0x0000, false⟩, ⟨0xFFE0, 0x8AE0, 0x0000, true⟩,
  ⟨0xFFE0, 0x8BE0, 0x0000, false⟩, ⟨0xFF00, 0xEB00, 0x0000, false⟩]

/-- Patterns of R150 to R155, in the order of spec/opcode_table.json. -/
def patterns4 : List Pattern := [
  ⟨0xFFE0, 0x8CE0, 0x0000, true⟩, ⟨0xFFE0, 0x8DE0, 0x0000, false⟩, ⟨0xFF00, 0xED00, 0x0000, false⟩, ⟨0xFFE0, 0x8EE0, 0x0000, true⟩,
  ⟨0xFFE0, 0x8FE0, 0x0000, false⟩, ⟨0xFF00, 0xEF00, 0x0000, false⟩, ⟨0xFCE0, 0x8060, 0x0007, false⟩, ⟨0xFCE0, 0x8460, 0x0007, false⟩,
  ⟨0xF8E0, 0x8860, 0x0407, false⟩, ⟨0xFFC0, 0x49C0, 0x000F, false⟩, ⟨0xF7E0, 0x8020, 0x0800, true⟩, ⟨0xF7E0, 0x8040, 0x0800, false⟩,
  ⟨0xF780, 0xD000, 0x0800, false⟩, ⟨0xF7E0, 0x8000, 0x0800, true⟩, ⟨0xF7E0, 0x8120, 0x0800, true⟩, ⟨0xF7E0, 0x8140, 0x0800, false⟩,
  ⟨0xF780, 0xD100, 0x0800, false⟩, ⟨0xF7E0, 0x8100, 0x0800, true⟩, ⟨0xF7E0, 0x8220, 0x0000, true⟩, ⟨0xF7E0, 0x8240, 0x0000, false⟩,
  ⟨0xF780, 0xD200, 0x0000, false⟩, ⟨0xF7E0, 0x8200, 0x0000, true⟩, ⟨0xF7E0, 0x8320, 0x0000, true⟩, ⟨0xF7E0, 0x8340, 0x0000, false⟩,
  ⟨0xF780, 0xD300, 0x0000, false⟩, ⟨0xF7E0, 0x8300, 0x0000, true⟩, ⟨0xF7E0, 0x8420, 0x0000, true⟩, ⟨0xF7E0, 0x8440, 0x0000, false⟩,
  ⟨0xF780, 0xD400, 0x0000, false⟩, ⟨0xF7E0, 0x8400, 0x0000, true⟩, ⟨0xF7E0, 0x8520, 0x0000, true⟩, ⟨0xF7E0, 0x8540, 0x0000, false⟩,
  ⟨0xF780, 0xD500, 0x0000, false⟩, ⟨0xF7E0, 0x8500, 0x0000, true⟩, ⟨0xF7E0, 0x8620, 0x0000, true⟩, ⟨0xF7E0, 0x8640, 0x0000, false⟩,
  ⟨0xF780, 0xD600, 0x0000, false⟩, ⟨0xF7E0, 0x8600, 0x0000, true⟩]

/-- Patterns of R150 to R155, in the order of spec/opcode_table.json. -/
def patterns5 : List Pattern := [
  ⟨0xF7E0, 0x8720, 0x0000, true⟩, ⟨0xF7E0, 0x8740, 0x0000, false⟩, ⟨0xF780, 0xD700, 0x0000, false⟩, ⟨0xF7E0, 0x8700, 0x0000, true⟩,
  ⟨0xF700, 0xE000, 0x0800, false⟩, ⟨0xF700, 0xE200, 0x0000, false⟩, ⟨0xF700, 0xE400, 0x0000, false⟩, ⟨0xF700, 0xE600, 0x0000, false⟩,
  ⟨0xFF00, 0x0800, 0x0000, false⟩, ⟨0xFEC0, 0x90C0, 0x0020, true⟩, ⟨0xFE80, 0xD080, 0x0000, false⟩, ⟨0xF0E0, 0x9020, 0x0000, true⟩,
  ⟨0xF0E0, 0x9000, 0x0000, false⟩, ⟨0xF000, 0xF000, 0x0000, false⟩, ⟨0xF390, 0xD280, 0x0000, false⟩, ⟨0xF240, 0x9240, 0x0000, false⟩,
  ⟨0xEF70, 0x6F00, 0x0080, false⟩, ⟨0xEF70, 0x6F10, 0x0080, false⟩, ⟨0xEF70, 0x6F20, 0x0080, false⟩, ⟨0xEF70, 0x6F30, 0x0080, false⟩,
  ⟨0xEF70, 0x6F40, 0x0080, false⟩, ⟨0xEF70, 0x6F50, 0x0080, false⟩, ⟨0xEF70, 0x6F60, 0x0080, false⟩, ⟨0xFEC0, 0x9840, 0x0020, true⟩,
  ⟨0xFEE0, 0x9040, 0x0000, false⟩, ⟨0xFEE0, 0x9060, 0x001E, false⟩, ⟨0xFEC0, 0x9C40, 0x0120, true⟩, ⟨0xFEE0, 0x9440, 0x0100, false⟩,
  ⟨0xFEE0, 0x9460, 0x011E, false⟩, ⟨0xFC00, 0x5800, 0x0000, false⟩, ⟨0xF398, 0xD290, 0x0007, false⟩, ⟨0xF3D8, 0xD298, 0x0027, false⟩,
  ⟨0xF3D8, 0xD2D8, 0x0027, false⟩, ⟨0xFFC0, 0x5EC0, 0x0000, false⟩, ⟨0xFFC0, 0x5E80, 0x0020, false⟩, ⟨0xFC00, 0x1800, 0x0000, true⟩,
  ⟨0xFFE0, 0x47C0, 0x0000, false⟩, ⟨0xFE9B, 0xD490, 0x0104, false⟩]

/-- Patterns of R150 to R155, in the order of spec/opcode_table.json. -/
def patterns6 : List Pattern := [
  ⟨0xFE9B, 0xD491, 0x0104, false⟩, ⟨0xFE9B, 0xD492, 0x0104, false⟩, ⟨0xFE9B, 0xD493, 0x0104, false⟩, ⟨0xFC00, 0x1C00, 0x0000, true⟩,
  ⟨0xFEC0, 0x98C0, 0x0020, true⟩, ⟨0xFFE0, 0x47E0, 0x0000, false⟩, ⟨0xF100, 0x2000, 0x0000, false⟩, ⟨0xF100, 0x3000, 0x0000, false⟩,
  ⟨0xE300, 0x6000, 0x0000, false⟩, ⟨0xE700, 0x6100, 0x0000, false⟩, ⟨0xE300, 0x6200, 0x0000, false⟩, ⟨0xEF00, 0x6500, 0x0000, false⟩,
  ⟨0xFF00, 0x6D00, 0x0000, false⟩, ⟨0xFF00, 0x7D00, 0x0000, false⟩, ⟨0xFEFC, 0xD4B8, 0x0003, false⟩, ⟨0xFEFC, 0xD4BC, 0x0003, false⟩,
  ⟨0xFEE0, 0x5E00, 0x0100, false⟩, ⟨0xFEE0, 0x5E20, 0x001F, false⟩, ⟨0xEF00, 0x2100, 0x0000, false⟩, ⟨0xEF00, 0x2500, 0x0000, false⟩,
  ⟨0xE300, 0x2300, 0x0000, false⟩, ⟨0xEB00, 0x2900, 0x0000, false⟩, ⟨0xFF00, 0x0500, 0x0000, false⟩, ⟨0xFFC0, 0x4FC0, 0x0020, false⟩,
  ⟨0xFFC0, 0x4F80, 0x0020, false⟩, ⟨0xFE80, 0xD880, 0x0000, false⟩, ⟨0xFE80, 0xDC80, 0x0000, false⟩, ⟨0xFEFC, 0xD498, 0x0003, false⟩,
  ⟨0xFEFC, 0xD49C, 0x0003, false⟩, ⟨0xFFC0, 0x0040, 0x0000, false⟩, ⟨0xFE00, 0x0600, 0x0000, true⟩, ⟨0xFF80, 0x0100, 0x0000, false⟩,
  ⟨0xFF80, 0x0180, 0x0000, true⟩, ⟨0xE700, 0x6300, 0x0000, false⟩, ⟨0xF180, 0x4080, 0x0000, false⟩, ⟨0xFEE0, 0x9CC0, 0x0000, false⟩,
  ⟨0xFEE0, 0x9CE0, 0x0000, true⟩, ⟨0xFFE0, 0x5E40, 0x0000, false⟩]

/-- Patterns of R150 to R155, in the order of spec/opcode_table.json. -/
def patterns7 : List Pattern := [
  ⟨0xFFC0, 0x5F40, 0x003F, false⟩, ⟨0xFFE0, 0x5E60, 0x0000, false⟩, ⟨0xFFC0, 0x4980, 0x0030, false⟩, ⟨0xFF80, 0x4B80, 0x0070, false⟩,
  ⟨0xFF80, 0x5F80, 0x0000, false⟩, ⟨0xFF00, 0x0D00, 0x00E0, false⟩, ⟨0xFF00, 0x0C00, 0x0000, false⟩, ⟨0xFF00, 0x5C00, 0x0000, false⟩,
  ⟨0xFF00, 0x5D00, 0x00E0, false⟩, ⟨0xFFC0, 0xD3C0, 0x003F, false⟩, ⟨0xFFC0, 0x4180, 0x0030, false⟩, ⟨0xF800, 0x5000, 0x0000, false⟩,
  ⟨0xFFC0, 0x41C0, 0x0030, false⟩, ⟨0xF800, 0x1000, 0x0000, false⟩, ⟨0xFE90, 0xD480, 0x006F, false⟩, ⟨0xFFC0, 0x4580, 0x0030, false⟩,
  ⟨0xFFC0, 0xD780, 0x003F, false⟩, ⟨0xFFC0, 0x45C0, 0x0020, false⟩, ⟨0xFFD0, 0xD7C0, 0x002F, false⟩, ⟨0xFFD0, 0xD380, 0x002F, false⟩,
  ⟨0xFFD0, 0xD390, 0x002F, false⟩, ⟨0xFF00, 0x0900, 0x0000, false⟩, ⟨0xFFE0, 0x0000, 0x001F, false⟩, ⟨0xFF80, 0x0080, 0x0040, true⟩,
  ⟨0xFFC0, 0x4380, 0x003F, false⟩, ⟨0xFFC0, 0x43C0, 0x003F, false⟩, ⟨0xFFE0, 0x0020, 0x001F, false⟩, ⟨0xFF00, 0x0400, 0x0000, false⟩,
  ⟨0xFE00, 0x0200, 0x0000, false⟩, ⟨0xFE00, 0x0A00, 0x0000, false⟩, ⟨0xFF80, 0xDB80, 0x0000, false⟩, ⟨0xFF80, 0xDF80, 0x0000, false⟩,
  ⟨0xFF80, 0x4D80, 0x007C, false⟩]

/-- Every pattern of R150 to R155. -/
def patterns : List Pattern :=
  patterns1 ++ patterns2 ++ patterns3 ++ patterns4 ++ patterns5 ++ patterns6 ++ patterns7

/-- The first word w has the pattern. -/
def Pattern.has (p : Pattern) (w : Word) : Prop := w.toNat &&& p.mask = p.bits

/-- Two first words differ in ignored bits of the pattern alone. -/
def Pattern.agree (p : Pattern) (w u : Word) : Prop := w.toNat ||| p.ignored = u.toNat ||| p.ignored

/-- The register code names a0, a1 or p. -/
def wholeReg (r : Reg) : Bool := r == .a0 || r == .a1 || r == .p

/-- The register code names the accumulator d. -/
def namesAcc (d : AX) (r : Reg) : Bool :=
  match d with
  | .a0 => r == .a0
  | .a1 => r == .a1

/-- The register code names the pointer n. -/
def namesPointer (n : RN) (r : Reg) : Bool :=
  match n with
  | .r0 => r == .r0
  | .r1 => r == .r1
  | .r2 => r == .r2
  | .r3 => r == .r3
  | .r4 => r == .r4
  | .r5 => r == .r5

/-- The operand lists exclude an operand of the instruction (R159; (a) to (g) there, and R202, R217, R295, R308, R311, R331,
R333, R334). -/
def excludes (i : Instr) : Bool :=
  match i with
  | .addReg d r | .subReg d r | .cmpReg d r | .orReg d r | .andReg d r | .xorReg d r => namesAcc d r
  | .addhReg _ r | .addlReg _ r | .cmpuReg _ r | .subhReg _ r | .sublReg _ r | .sqrReg r | .sqraReg _ r | .msuYReg _ r
  | .mpyYReg r | .mpysuYReg r | .macYReg _ r | .macusYReg _ r | .maaYReg _ r | .macuuYReg _ r | .macsuYReg _ r | .maasuYReg _ r
  | .movRegB _ r | .movRegMixp r | .movRegIcr r | .movsReg _ r | .movrReg _ r | .pushReg r | .repReg r | .bkrepReg r _ =>
    wholeReg r
  | .setReg r _ | .rstReg r _ | .chngReg r _ | .addvReg r _ | .subvReg r _ | .cmpvReg r _ | .tst0Reg _ r | .tst1Reg _ r
  | .tst0LongReg r _ | .tst1LongReg r _ | .tstbReg _ r => wholeReg r || r == .pc
  | .expRegA _ r | .expRegSv r => r == .p || r == .pc
  | .movRegReg d r => r == d || r == .a0 || r == .a1 || (r == .p && d != .a0 && d != .a1)
  | .movRegInd r n m => wholeReg r || (namesPointer n r && m != .none)
  | .movIndReg r n m => namesPointer n r && m != .none
  | _ => false

end Sys2Proof.Claim

open Sys2Proof Sys2Proof.Machine Sys2Proof.Claim

/-! ### Decoding and the step -/

/-- R150 to R155: words written out from the encoding tables decode to their instructions. That 0x8864, which also matches
`min` with ignored bits set, is `movr` is the spec's decision D21 (R157, log 12). -/
def Obligations.DecodeWords : Prop :=
  decode 0xC6FF 0 = .ok (.addShort .a0 255) ∧
  decode 0xA702 0 = .ok (.addDirect .a1 2) ∧
  decode 0xD4FB 0x1050 = .ok (.addDirLong .a0 0x1050) ∧
  decode 0x6714 0 = .ok (.shr4A .a0 .ge) ∧
  decode 0xD228 0 = .ok (.macDual .a0 .r4 .inc .r0 .inc) ∧
  decode 0x83E8 0x0002 = .ok (.rstReg .st0 0x0002) ∧
  decode 0x8864 0 = .ok (.movrIndPart .b0 .r0 .inc) ∧
  decode 0x5E05 0x1234 = .ok (.movLongReg .r5 0x1234) ∧
  decode 0x5C03 0x010B = .ok (.bkrepShort 3 0x010B) ∧
  decode 0x57F0 0 = .ok (.brr (-1) .always) ∧
  decode 0x45D0 0 = .ok (.reti true .always) ∧
  decode 0x4380 0 = .ok .eint

/-- R130, R131, R158: the decoder reads back the words of every well-formed instruction; the operand word of a one-word
instruction is not read. -/
def Obligations.DecodeEncode : Prop :=
  ∀ i : Instr, i.WellFormed → ∀ v : Word, decode (encodeFirst i) ((encodeSecond i).getD v) = .ok i

/-- R158, R159, R162: what the decoder accepts is well formed and has the length its first word says, one or two.
The refusals are the spec's decision D1 (log 12). -/
def Obligations.DecodedLength : Prop :=
  ∀ (w v : Word) (i : Instr), decode w v = .ok i →
    i.WellFormed ∧ wordLength w = (Instr.traits i).words ∧ ((Instr.traits i).words = 1 ∨ (Instr.traits i).words = 2) ∧
      ((Instr.traits i).words = 2 ↔ (encodeSecond i).isSome = true)

/-- R137, R149 to R159, R325: the words that the decoder refuses, and under which name: those with none of the patterns, the
reserved codes of the ALU families, of `moda` and of `modb` among them; those with an undefined pointer or `swap` code; those
of an instruction with an excluded operand. What it accepts differs from the encoding of the instruction in ignored bits of
one pattern alone, and has its operand word.
The refusal is the spec's decision D1, the ignored A bit D20 (log 12), the exclusions of `exp` D27 (log 30), of a pointer moved
to or from where it points, with post-modification, D16 (log 25); R159 says which exclusions come from a sibling page. -/
def Obligations.ReservedWords : Prop :=
  (∀ w v : Word, decode w v = .error .noPattern ↔ ∀ p ∈ patterns, ¬ p.has w) ∧
  (∀ w v : Word, decode w v = .error .reservedField ↔
    (∃ p ∈ patterns, p.pointer = true ∧ p.has w ∧ 6 ≤ w.toNat % 8) ∨ (0x4980 ≤ w.toNat ∧ w.toNat < 0x49C0 ∧ 14 ≤ w.toNat % 16)) ∧
  (∀ i : Instr, i.wellFormed = !excludes i) ∧
  (∀ (i : Instr) (v : Word), excludes i = true → decode (encodeFirst i) ((encodeSecond i).getD v) = .error .excludedOperand) ∧
  (∀ (w v : Word) (i : Instr), decode w v = .ok i →
    (∃ p ∈ patterns, p.has w ∧ p.has (encodeFirst i) ∧ p.agree w (encodeFirst i)) ∧ ∀ u, encodeSecond i = some u → u = v) ∧
  (∀ (a b c : Nat) (v : Word), a < 2 → b < 2 → c < 16 →
    decode (BitVec.ofNat 16 (0x6770 + 0x1000 * a + c)) v = .error .noPattern ∧
    decode (BitVec.ofNat 16 (0x6F70 + 0x1000 * a + 0x80 * b + c)) v = .error .noPattern) ∧
  (∀ (x a c : Nat) (v : Word), x = 4 ∨ x = 5 → a < 2 →
    (c < 32 → decode (BitVec.ofNat 16 (0x80C0 + 0x200 * x + 0x100 * a + c)) v = .error .noPattern) ∧
    (c < 256 → decode (BitVec.ofNat 16 (0xC000 + 0x200 * x + 0x100 * a + c)) v = .error .noPattern) ∧
    (c < 128 → decode (BitVec.ofNat 16 (0x4000 + 0x200 * x + 0x100 * a + c)) v = .error .noPattern) ∧
    decode (BitVec.ofNat 16 (0xD4D8 + 0x100 * a + x)) v = .error .noPattern ∧
    decode (BitVec.ofNat 16 (0xD4F8 + 0x100 * a + x)) v = .error .noPattern)

/-- R503, R158: at a boundary with no reset, no accepted request and no boot instruction to insert, a step runs the instruction
that the words at pc decode to: its meaning in the state with pc behind it, then the loop, delay-slot and hold
bookkeeping; or the refusal of a forbidden sequence. Words that the decoder refuses make the step refuse with the first of
them and its address; so does, by name, a word of the instruction that a device or nothing stands behind.
What a boundary does first is the spec's decision D39 (log 42), the refusals D1 and D2 (logs 12, 13), of a word that a device
would answer log 61. -/
def Obligations.StepRunsDecoded : Prop :=
  ∀ (s : State) (w v : Word),
    s.pins.reset = false → s.accepted = none → (s.svc.inBoot = false ∨ s.pc ≠ 0) → w = Memory.word s.pmem s.pc →
    v = (if wordLength w = 2 then Memory.word s.pmem (s.pc + 1) else 0) →
    (s.progReadable s.pc = true → (wordLength w = 2 → s.progReadable (s.pc + 1) = true) →
      (∀ i, decode w v = .ok i →
        (hazard (Instr.traits i) s.pc (s.begin (Instr.traits i).words) = none →
          step s = finished (exec i (s.begin (Instr.traits i).words)) s (Instr.traits i)) ∧
        (∀ r, hazard (Instr.traits i) s.pc (s.begin (Instr.traits i).words) = some r → step s = .refused r)) ∧
      (decode w v = .error .noPattern → step s = .refused (.noPattern w s.pc)) ∧
      (decode w v = .error .reservedField → step s = .refused (.reservedField w s.pc)) ∧
      (decode w v = .error .excludedOperand → step s = .refused (.excludedOperand w s.pc))) ∧
    (∀ a : Word, a = s.pc ∨ (s.progReadable s.pc = true ∧ wordLength w = 2 ∧ a = s.pc + 1) →
      (regionKind s.chip.progMap a = .device → step s = .refused .progDevice) ∧
      (regionKind s.chip.progMap a = .nothing → step s = .refused .progAbsent))

/-- The invariant is kept by every step: the memories stay canonical, BC and LP stay legal (R43, R404, R406, R408, R409), a
delayed return stays legal (R442), the holds stay within two cycles (R522, R523).
The hold counters are the spec's decision D5 (log 16). -/
def Obligations.InvariantStep : Prop :=
  ∀ s t : State, s.Inv → step s = .next t → t.Inv

/-- The invariant holds after reset. -/
def Obligations.InvariantReset : Prop := State.reset.Inv

/-! ### Reset, interrupts, trap -/

/-- R74: the fields that reset clears are clear in the machine after reset. -/
def Obligations.ResetValues : Prop :=
  State.reset.pc = 0 ∧ State.reset.st0.extractLsb' 0 12 = 0 ∧ State.reset.stat.ps = 0 ∧
  (∀ b, (State.reset.st2 b).extractLsb' 0 10 = 0) ∧ State.reset.icr.low = 0

/-- R74, R500: with the reset line high a step clears exactly the listed fields and the service state; every other register
and both memories keep their values; in_boot takes the boot pin (R603).
The hidden state is the spec's decision D5, reset at a boundary D41 (logs 16, 43); that the marks of the instruction before
it (atVector, afterTrap, prev) are cleared too is the model's choice (log 62). -/
def Obligations.ResetEvent : Prop :=
  ∀ s : State, s.pins.reset = true →
    ∃ t, step s = .next t ∧
      t.pc = 0 ∧ (∀ b, t.st0.extractLsb' 0 12 = 0 ∧ t.stat.ps = 0 ∧ (t.st2 b).extractLsb' 0 10 = 0) ∧ t.icr.low = 0 ∧
      t.accs = s.accs ∧ t.stat.page = s.stat.page ∧ t.mul = s.mul ∧ t.sv = s.sv ∧ t.dau = s.dau ∧ t.loops.lc = s.loops.lc ∧
      t.loops.repc = s.loops.repc ∧ t.shadow = s.shadow ∧ t.dvm = s.dvm ∧ t.ext = s.ext ∧ t.dmem = s.dmem ∧
      t.pmem = s.pmem ∧ t.svc.inBoot = s.pins.boot ∧ t.svc.inNmi = false ∧ t.svc.inTrap = false ∧ t.svc.dret = none ∧
      t.loops.repActive = false ∧ t.loops.repSavedActive = false ∧ t.svc.hold = Holds.zero ∧ t.svc.icrCtx = 0 ∧
      (∀ k, t.loops.level k = s.loops.level k) ∧ t.svc.started = false ∧ t.svc.atVector = false ∧
      t.svc.afterTrap = false ∧ t.svc.prev = Previous.zero

/-- R603: after a reset with the boot pin high the first instruction is `brr #-3` as if at address 0, with program memory
not read for it.
Where in_boot ends is the spec's decision D37 (log 40). -/
def Obligations.BootInsertion : Prop :=
  ∀ s : State, s.pins.reset = false → s.pins.boot = true → s.pins.bi = false →
    ∃ t, step s.resetEvent = .next t ∧ t.pc = 0xFFFE ∧ t.svc.inBoot = false ∧ t.dmem = s.dmem ∧ t.pmem = s.pmem ∧
      t.accs = s.accs ∧ t.dau = s.dau

/-- R503, R504, R512, R520: which request a boundary accepts: the first, in the order BI, NMI, INT0, INT1, INT2, that is
acceptable: its pin high (and its mask bit and IE set for a maskable one), no routine under way that shuts it out, and the
boundary open for it. A source that is requested but closed does not block a lower one. In a TRAP/BI routine, before a
delayed jump and in a nested repeat nothing is accepted, in an NMI routine only BI.
The first boundary after reset, the boot procedure and the vector instruction are the spec's decisions D36, D37, D39
(logs 39, 40, 42). -/
def Obligations.Acceptance : Prop :=
  ∀ s : State,
    (∀ k, s.accepted = some k ↔
      (wanted s k = true ∧ openFor s k = true ∧ ∀ j, rank j < rank k → wanted s j = false ∨ openFor s j = false)) ∧
    (∀ k, s.isOpen k = openFor s k) ∧
    (s.svc.inTrap = true → s.accepted = none) ∧
    (s.svc.dret.isSome = true → s.accepted = none) ∧
    (s.loops.repActive = true → s.loops.repSavedActive = true → s.accepted = none) ∧
    (s.svc.inNmi = true → s.accepted = none ∨ s.accepted = some .bi) ∧
    (∀ k, s.accepted = some k → s.svc.hold.of k = 0 ∧ (k = .bi ∨ s.svc.started = true))

/-- R505 to R507, R509, R513: an accepted request pushes the address of the next instruction, puts a running repeat aside,
clears IE for a maskable interrupt only, stores the context where icr_ctx_effective enables it, loads dvm for BI, sets
in_nmi or in_trap, goes to the vector and acknowledges; everything else keeps its value.
What is saved of a repeat, dvm for BI and one entry for each boundary are the spec's decisions D9, D38, D39 (logs 19, 41, 42).
That the automatic context store sets the flags of the new a1 is its inference (R462, from R460), and so is that an entry
clears what the last instruction left for the check of the next (R620, log 46). -/
def Obligations.InterruptEntry : Prop :=
  ∀ (s : State) (k : Source), s.pins.reset = false → s.accepted = some k → s.writable (s.dau.sp - 1) = true →
    Memory.wf s.dmem = true →
    ∃ t u, step s = .next t ∧ stored s.dmem t.dmem (s.dau.sp - 1) s.pc ∧
      u = (if (k = .nmi ∧ s.svc.icrCtx.getLsbD 0 = true) ∨ (k = .int0 ∧ s.svc.icrCtx.getLsbD 1 = true) ∨
              (k = .int1 ∧ s.svc.icrCtx.getLsbD 2 = true) ∨ (k = .int2 ∧ s.svc.icrCtx.getLsbD 3 = true)
           then saved s else s) ∧
      t = { u with
        pc := vectorOf k
        dau := { s.dau with sp := s.dau.sp - 1 }
        dmem := t.dmem
        loops := putAside s.loops s.pc
        stat := { u.stat with ie := if k = .int0 ∨ k = .int1 ∨ k = .int2 then false else s.stat.ie }
        dvm := if k = .bi then s.pc + 1 else s.dvm
        svc := { s.svc with inNmi := s.svc.inNmi || k = .nmi, inTrap := s.svc.inTrap || k = .bi, atVector := true,
                            prev := Previous.zero }
        out := { ack := true, sft := false, bus := [] } }

/-- R522, R523: after an instruction, and after each repetition of one, the hold of each source is what is left of it, or the
delay of Table 5B where that is longer; the last repetition of a repeat and the first instruction after a return from
TRAP/BI hold all but BI for a cycle, the last repetition while an outer repeat is saved holds BI as well.
The counters are the spec's decisions D5 and D40 (logs 16, 23), their update its inference from the table (R523), BI held
after a nested repeat is log 54. -/
def Obligations.HoldCounters : Prop :=
  ∀ (i : Instr) (s t : State) (k : Source), k ≠ .trap →
    (¬ lastRepetition i s t → s.svc.afterTrap = false →
      (t.finish s (Instr.traits i)).svc.hold.of k =
        max (s.svc.hold.of k - (Instr.traits i).cyclesIn s) (tableHold i s k)) ∧
    (k ≠ .bi → lastRepetition i s t ∨ s.svc.afterTrap = true →
      (t.finish s (Instr.traits i)).svc.hold.of k =
        max (s.svc.hold.of k - (Instr.traits i).cyclesIn s) (max 1 (tableHold i s k))) ∧
    (k = .bi → lastRepetition i s t → s.loops.repSavedActive = true →
      (t.finish s (Instr.traits i)).svc.hold.of k =
        max (s.svc.hold.of k - (Instr.traits i).cyclesIn s) (max 1 (tableHold i s k))) ∧
    (k = .bi → ¬ (lastRepetition i s t ∧ s.loops.repSavedActive = true) →
      (t.finish s (Instr.traits i)).svc.hold.of k =
        max (s.svc.hold.of k - (Instr.traits i).cyclesIn s) (tableHold i s k))

/-- R454, R508: `trap` pushes the address after it, copies it to dvm, goes to 0x0002 and sets in_trap, whatever IE is; in a
TRAP/BI routine it is refused (U19).
The refusal is log 46 (U19), ack and sft are log 21. -/
def Obligations.TrapEntry : Prop :=
  (∀ s : State, s.svc.inTrap = false → s.writable (s.dau.sp - 1) = true → Memory.wf s.dmem = true →
    ∃ t, exec .trap s = .next t ∧ stored s.dmem t.dmem (s.dau.sp - 1) s.pc ∧
      t = { s with
        pc := 2
        dvm := s.pc
        dau := { s.dau with sp := s.dau.sp - 1 }
        dmem := t.dmem
        svc := { s.svc with inTrap := true, atVector := false }
        out := { s.out with ack := true, sft := true } }) ∧
  (∀ s : State, s.svc.inTrap = true → exec .trap s = .refused .trapInTrap)

/-! ### The arithmetic and logic instructions -/

/-- R203, R209, R211: `add`, `addh`, `addl` in all their forms; `addh` counts its operand 2^16 times, `addl` reads it
unsigned.
A part of the destination as source is the spec's decision D22, that parts are read raw D7 (logs 27, 17). -/
def Obligations.AddInstructions : Prop :=
  ∀ (i : Instr) (op : AluOp) (d : AX) (src : AluSrc) (s : State), i.WellFormed → addView i = some (op, d, src) →
    aluReady src s = true →
    exec i s = .next
      (let r := plus s.flags (s.accs.get d.ab)
         (if op = .addh then aluOperand src .sign s * 65536
          else if op = .addl then aluOperand src .zero s else aluOperand src .sign s)
       { aluRest src s with accs := s.accs.set d.ab r.1, flags := r.2 })

/-- R204, R205, R213, and for `subh` and `subl` the spec's own inference (40_alu.md, from `addh` and `addl`): `sub`, `subh`,
`subl`, `cmp`, `cmpu` in all their forms; the compares leave aX. -/
def Obligations.SubtractInstructions : Prop :=
  ∀ (i : Instr) (op : AluOp) (d : AX) (src : AluSrc) (s : State), i.WellFormed → subView i = some (op, d, src) →
    aluReady src s = true →
    exec i s = .next
      (let r := minus s.flags (s.accs.get d.ab)
         (if op = .subh then aluOperand src .sign s * 65536
          else if op = .subl ∨ op = .cmpu then aluOperand src .zero s else aluOperand src .sign s)
       { aluRest src s with
         accs := if op = .cmp ∨ op = .cmpu then s.accs else s.accs.set d.ab r.1
         flags := r.2 })

/-- R206 to R208: `or`, `and`, `xor` in all their forms, bit by bit on the zero-extended operand; `and` with a short
immediate keeps bits 15..8 of aX and takes its flags from the whole AND; `and` leaves N.
The memory operands of `or` and bits 35..16 of the short `and` are the spec's own inferences (R206, R207). -/
def Obligations.LogicInstructions : Prop :=
  ∀ (i : Instr) (op : AluOp) (d : AX) (src : AluSrc) (s : State), logicView i = some (op, d, src) → aluReady src s = true →
    ∃ r out : Acc,
      (∀ k, k < 36 → out.getLsbD k =
        logicBit op ((s.accs.get d.ab).getLsbD k) ((BitVec.ofInt 36 (aluOperand src .zero s)).getLsbD k)) ∧
      (∀ k, k < 36 → r.getLsbD k =
        if op = .and ∧ src.isShort = true ∧ 8 ≤ k ∧ k < 16 then (s.accs.get d.ab).getLsbD k else out.getLsbD k) ∧
      exec i s = .next
        { aluRest src s with
          accs := s.accs.set d.ab r
          flags := if op = .and then { zmne s.flags out with n := s.flags.n } else zmne s.flags out }

/-- R214, R215, R217, R295, R301 to R303: `addv`, `subv`, `set`, `rst`, `chng` on a register: the flags, then the write; an
accumulator part is replaced alone; st0 takes the result whole.
The flags of `addv` and `subv` are the spec's decision D23, M of the others D24, `chng` its general knowledge (logs 28, 29, 11).
`set` is the spec's own inference (R301, from R302 and R300), and so are the operands of `addv` and `subv`, their widening, and
for them the order of flags and write on st0 and st1 (R217, from R295, R200, R201, R301). -/
def Obligations.ModifyRegister : Prop :=
  ∀ (i : Instr) (op : RmwOp) (r : Reg) (v : Word) (s : State), rmwView i = some (op, .reg r, v) → regReady r s = true →
    exec i s = .next
      (rewrite { s.afterRead r with flags := rmwFlags op s.flags (s.regValue r) v } r (rmwResult op (s.regValue r) v))

/-- The same instructions on a word of data memory: it is read and written at the same address, an (rN) operand is
post-modified once, every other byte of memory stays.
The flags are as in ModifyRegister (logs 28, 29, 11); `set` is the spec's own inference (R301, from R302 and R300), and so are
the operands of `addv` and `subv` and their widening (R217). -/
def Obligations.ModifyMemory : Prop :=
  ∀ (i : Instr) (op : RmwOp) (x : Src) (v a : Word) (s : State), rmwView i = some (op, x, v) → place x s = some a →
    s.writable a = true → Memory.wf s.dmem = true →
    ∃ t, exec i s = .next t ∧ stored s.dmem t.dmem a (rmwResult op (Memory.word s.dmem a) v) ∧
      t = { rest x s with flags := rmwFlags op s.flags (Memory.word s.dmem a) v, dmem := t.dmem }

/-- R216: `cmpv` in all its forms changes only the flags and a post-modified pointer.
The flags are the spec's decision D23 (log 28). -/
def Obligations.CompareLong : Prop :=
  ∀ (i : Instr) (x : Src) (v : Word) (s : State), cmpvView i = some (x, v) → ready x s = true →
    exec i s = .next
      { rest x s with flags := (minus s.flags (BitVec.ofInt 36 (value x s).toInt) v.toInt).2 }

/-- R218, R315, R317, R421, R422, R430, R432: with its condition false an instruction changes nothing.
`shfc` is the spec's own inference (R315). -/
def Obligations.ConditionFalse : Prop :=
  ∀ (i : Instr) (c : Cond) (s : State), condView i = some c → holds c s = false → exec i s = .next s

/-- R219 to R224, R292, R318 to R323: the shifts by one and four places and the rotations through the carry of `moda` and
`modb`, with the condition true.
That V of `shl4` is judged on 32 bits, where the pages print 31, is the spec's choice (C9, U11, log 48). -/
def Obligations.ShiftsAndRotates : Prop :=
  (∀ (i : Instr) (a : AB) (c : Cond) (n : Int) (s : State), shiftFnView i = some (a, c, n) → holds c s = true →
    exec i s = .next
      { s with accs := s.accs.set a (shifted (s.accs.get a) n s.stat.s)
               flags := shiftFlags s.flags (s.accs.get a) n s.stat.s }) ∧
  (∀ (i : Instr) (a : AB) (c : Cond) (left : Bool) (s : State), rotateView i = some (a, c, left) → holds c s = true →
    ∃ r : Acc,
      (∀ k, k < 36 → r.getLsbD k =
        if left then (if k = 0 then s.flags.c else (s.accs.get a).getLsbD (k - 1))
        else (if k = 35 then s.flags.c else (s.accs.get a).getLsbD (k + 1))) ∧
      exec i s = .next
        { s with accs := s.accs.set a r
                 flags := { zmne s.flags r with c := (s.accs.get a).getLsbD (if left then 35 else 0) } })

/-- R225 to R233, R324: `clr`, `not`, `neg`, `rnd`, `pacr`, `clrr`, `inc`, `dec`, `copy` with the condition true.
C and V of `neg` are the spec's own inference (R227, from R200). -/
def Obligations.AccumulatorFunctions : Prop :=
  ∀ (i : Instr) (fn : ModFn) (a : AB) (c : Cond) (s : State), accFnView i = some (fn, a, c) → holds c s = true →
    ∃ r, accFn fn (s.accs.get a) (s.accs.get (mate a)) (shiftedProduct s) s.flags = some r ∧
      exec i s = .next { s with accs := s.accs.set a r.1, flags := r.2 }

/-- R240: `norm` doubles aX where N is clear, post-modifies rN and reports its zero in R; where N is set it changes nothing.
That the flags are the arithmetic ones, and what R reports of a pointer with no modification, are the spec's own inferences
(R240). -/
def Obligations.Normalize : Prop :=
  ∀ (d : AX) (n : RN) (m : PostMod) (s : State),
    exec (.norm d n m) s = .next
      (if s.flags.n then s
       else { s.setPtr n (nextPointer s n m (s.moduloOn n)) with
         accs := s.accs.set d.ab (BitVec.ofInt 36 (2 * (s.accs.get d.ab).toInt))
         flags := { shiftFlags s.flags (s.accs.get d.ab) 1 false with
           r := decide (nextPointer s n m (s.moduloOn n) = 0) } })

/-- R241: one step of a division.
That the flags describe the new aX is the spec's own inference (R241).
The source promises `divs` for a positive dividend and divisor only; that R241 is computed for every operand is log 49 (U12). -/
def Obligations.DivideStep : Prop :=
  ∀ (d : AX) (a : BitVec 8) (s : State), s.readable (s.stat.page ++ a) = true →
    exec (.divs d a) s = .next
      (let x := (s.accs.get d.ab).toInt
       let t := (BitVec.ofInt 36 (x - (Memory.word s.dmem (s.stat.page ++ a)).toInt * 32768)).toInt
       accLanded s d.ab (BitVec.ofInt 36 (if t < 0 then 2 * x else 2 * t + 1)))

/-- R246 to R248: `max`, `maxd`, `min`: a rival that wins enters aX and latches r0 in mixp; M says whether it won; r0 is
post-modified always; no other flag changes. -/
def Obligations.Extremes : Prop :=
  ∀ (i : Instr) (c : Contest) (o : Rival) (d : AX) (m : PostMod) (s : State), extremeView i = some (c, o, d, m) →
    (o = .data → s.readable s.dau.r0 = true) →
    exec i s = .next
      (let x : Acc := match o with
         | .other => s.accs.get d.other.ab
         | .data => BitVec.ofInt 36 (Memory.word s.dmem s.dau.r0).toInt
       let won := c.won x.toInt (s.accs.get d.ab).toInt
       { s with
         accs := if won then s.accs.set d.ab x else s.accs
         flags := { s.flags with m := won }
         dau := { s.dau with r0 := nextPointer s .r0 m (s.moduloOn .r0), mixp := if won then s.dau.r0 else s.dau.mixp } })

/-- R249: `lim` clamps the source to 32 bits into the destination, clears E, latches a limitation in L; SAT has no effect.
The bounds of full scale, where the page prints other digits, are the spec's choice (C6, log 50). -/
def Obligations.Limit : Prop :=
  ∀ (i : Instr) (x d : AB) (s : State), limitView i = some (x, d) →
    exec i s = .next
      (let r := BitVec.ofInt 36 (max (-(2 ^ 31)) (min (2 ^ 31 - 1) (s.accs.get x).toInt))
       { s with accs := s.accs.set d r
                flags := { zmne s.flags r with e := false, l := s.flags.l || wide (s.accs.get x) } })

/-! ### The multiplies -/

/-- R260 to R263, R271, R272: `mpy`, `mpysu`, `mpyi`, `sqr` load y and x and form the exact product; no accumulator and no
flag changes.
`mpy`, `mpysu`, `sqr` and the flags left alone are the spec's own inferences (R262, R263, R271, R272). -/
def Obligations.Multiply : Prop :=
  ∀ (i : Instr) (ym xm : Sign) (f : Factors) (s : State), mpyView i = some (ym, xm, f) → factorsReady f s = true →
    exec i s = .next { factorsRest f s with mul := multiplied ym xm (factorY f s) (factorX f s) } ∧
    product (multiplied ym xm (factorY f s) (factorX f s)) = factor ym (factorY f s) * factor xm (factorX f s)

/-- R264 to R270, R273: `mac`, `macsu`, `macus`, `macuu`, `maa`, `maasu`, `msu`, `sqra` accumulate the previous shifted product
with its flags, then load and multiply.
`macsu` is the spec's own inference (R265). -/
def Obligations.MultiplyAccumulate : Prop :=
  ∀ (i : Instr) (a : Accumulation) (ym xm : Sign) (d : AX) (f : Factors) (s : State), macView i = some (a, ym, xm, d, f) →
    factorsReady f s = true →
    exec i s = .next
      (let r := accumulated a s.flags (s.accs.get d.ab) (shiftedProduct s)
       { factorsRest f s with
         accs := s.accs.set d.ab r.1, flags := r.2, mul := multiplied ym xm (factorY f s) (factorX f s) })

/-- The model's choice (log 8): a dual-operand multiply whose addresses are not in their spaces runs on two free operands and
accesses neither address, whatever stands behind them; everything else is as R261 and R264 say. -/
def Obligations.DualOutsideSpaces : Prop :=
  ∀ (i : Instr) (ym xm : Sign) (j : RJ) (jm : PostMod) (n : RI) (m : PostMod) (s : State),
    (s.ptr j.rn).toNat < s.chip.yramconf.toNat * 1024 ∨ s.chip.yramconf.toNat * 1024 ≤ (s.ptr n.rn).toNat →
    (mpyView i = some (ym, xm, .dual j jm n m) →
      ∃ y x, exec i s = .next
        { (s.bump j.rn jm).bump n.rn m with mul := multiplied ym xm y x, freeCtr := s.freeCtr + 1 }) ∧
    (∀ a d, macView i = some (a, ym, xm, d, .dual j jm n m) →
      ∃ y x, exec i s = .next
        (let r := accumulated a s.flags (s.accs.get d.ab) (shiftedProduct s)
         { (s.bump j.rn jm).bump n.rn m with
           accs := s.accs.set d.ab r.1, flags := r.2, mul := multiplied ym xm y x, freeCtr := s.freeCtr + 1 }))

/-! ### The bit-manipulation unit -/

/-- R304 to R308: `tst0`, `tst1`, `tstb` in all their forms: Z is set when every selected bit has the wanted value, and nothing
else changes but a post-modified pointer (the senses of Z: log 11). -/
def Obligations.TestBits : Prop :=
  ∀ (i : Instr) (q : Probe) (x : Src) (s : State), testView i = some (q, x) → ready x s = true →
    ∃ z, (z = true ↔ ∀ k, k < 16 → q.covers s k = true → (value x s).getLsbD k = q.wanted) ∧
      exec i s = .next { rest x s with flags := { s.flags with z := z } }

/-- R290, R291, R315, R316, R378 to R380: `shfi`, `shfc`, `movs` with a count in -36..36 and the condition true.
`shfc` is the spec's own inference (R315), and so is the sign extension of the operand of `movs` (R378, from R381); the flags of
`movs` are its decision D30 (log 33). -/
def Obligations.BarrelShift : Prop :=
  ∀ (i : Instr) (k : Option (BitVec 6)) (c : Cond) (x : Shiftee) (d : AB) (s : State), shiftView i = some (k, c, x, d) →
    holds c s = true → shifteeReady x s = true → -36 ≤ shiftCount k s → shiftCount k s ≤ 36 →
    exec i s = .next
      { shifteeRest x s with
        accs := s.accs.set d (shifted (shifteeValue x s) (shiftCount k s) s.stat.s)
        flags := shiftFlags s.flags (shifteeValue x s) (shiftCount k s) s.stat.s }

/-- The model's choice (log 7): with sv outside -36..36 `shfc` and `movs` run and leave a free value and free flags; R and
everything else are as R290 says. -/
def Obligations.ShiftCountOutside : Prop :=
  ∀ (i : Instr) (c : Cond) (x : Shiftee) (d : AB) (s : State), shiftView i = some (none, c, x, d) → holds c s = true →
    shifteeReady x s = true → s.sv.toInt < -36 ∨ 36 < s.sv.toInt →
    ∃ r f, f.r = s.flags.r ∧
      exec i s = .next
        { shifteeRest x s with
          accs := s.accs.set d r, flags := f, freeCtr := (shifteeRest x s).freeCtr + 1 }

/-- R381: `movsi` shifts by its immediate; V is cleared in arithmetic mode and L stays. -/
def Obligations.MoveShiftImmediate : Prop :=
  ∀ (n : RNStar) (d : AB) (k : BitVec 5) (s : State),
    exec (.movsi n d k) s = .next
      (let x := BitVec.ofInt 36 (s.regValue n.reg).toInt
       let r := shifted x k.toInt s.stat.s
       { s with accs := s.accs.set d r
                flags := { zmne s.flags r with c := shiftCarry x k.toInt, v := s.flags.v && s.stat.s } })

/-- R310, R311: `exp` in all its forms: the number of sign bits less five goes to sv, and to the accumulator the form names;
no flag changes.
The counting, the sources and the flags are the spec's decisions D25 to D27 (log 30). -/
def Obligations.Exponent : Prop :=
  ∀ (i : Instr) (x : Measured) (d : Option AX) (s : State), expView i = some (x, d) → measuredReady x s = true →
    ∃ n : Nat, signBits (measuredValue x s) n ∧
      exec i s = .next
        { measuredRest x s with
          sv := BitVec.ofInt 16 ((n : Int) - 5)
          accs := match d with
            | some a => s.accs.set a.ab (BitVec.ofInt 36 ((n : Int) - 5))
            | none => s.accs }

/-! ### The moves -/

/-- R330, R331, R334, R338, R339, R342, R358, R362 to R364, R370, R387: the moves into a register named by a code. An
accumulator part as source is clamped first and may set L; an accumulator as destination sets Z, M, N, E.
The flags of `movp` and `pop` and the value of `pop sp` are the spec's decisions D29, D31 (logs 32, 34). -/
def Obligations.MoveToRegister : Prop :=
  ∀ (i : Instr) (w : WordSrc) (r : Reg) (s : State), regDestView i = some (w, r) → srcReady w s = true → s.hasReg r = true →
    exec i s = .next (landed (srcRest w s) r (srcValue w s))

/-- R331, R332, R335, R336, R343 to R345, R348, R353, R354, R356, R359 to R361, R365, R367: the moves into an accumulator. -/
def Obligations.MoveToAccumulator : Prop :=
  ∀ (i : Instr) (v : AccValue) (d : AB) (s : State), accDestView i = some (v, d) → accValueReady v s = true →
    exec i s = .next (accLanded (accValueRest v s) d (accValue v d s))

/-- The model's choice for the reserved bits (log 6): `mov icr, ab` reads bits 7..0 of icr under a free high byte. -/
def Obligations.MoveIcrToAccumulator : Prop :=
  ∀ (d : AB) (s : State), ∃ b : BitVec 8,
    exec (.movIcrAcc d) s = .next
      (accLanded { s with freeCtr := s.freeCtr + 1 } d (BitVec.ofInt 36
        (b ++ (s.icr.bc ++ BitVec.ofBool s.icr.lp ++ BitVec.ofBool s.icr.ic2 ++ BitVec.ofBool s.icr.ic1 ++
          BitVec.ofBool s.icr.ic0 ++ BitVec.ofBool s.icr.nmic)).toInt))

/-- R333, R340, R341, R347, R349, R366, R368, R385, R386: the moves and pushes that store a word; the word is stored at the
form's address and no other byte of memory changes.
What `push sp` stores is the spec's decision D31 (log 34). -/
def Obligations.MoveToMemory : Prop :=
  ∀ (i : Instr) (w : WordSrc) (g : Target) (s : State), memDestView i = some (w, g) → srcReady w s = true →
    s.writable (targetAddr g s) = true → Memory.wf s.dmem = true →
    ∃ t, exec i s = .next t ∧ stored s.dmem t.dmem (targetAddr g s) (srcValue w s) ∧
      t = { targetRest g (srcRest w s) with dmem := t.dmem }

/-- R337, R346, R350 to R352, R357, R44: the moves into mixp, sv, icr, x, dvm. -/
def Obligations.MoveToSpecial : Prop :=
  ∀ (i : Instr) (w : WordSrc) (g : Special) (s : State), specialView i = some (w, g) → srcReady w s = true →
    exec i s = .next (specialWritten (srcRest w s) g (srcValue w s))

/-- R371, R372: `movp (rN), (rI)` copies a program word to data memory, `movd (rI), (rJ)` a data word to program memory; both
pointers are post-modified. `movd` to its own address or the next is refused (R97); pc is the address after it. The same
register in both fields of `movp` leaves that register free (the model's choice, log 9).
`movp` is the spec's own inference from `movd` (R371); the refusal is its decision D4 (log 15). -/
def Obligations.ProgramMoves : Prop :=
  (∀ (n : RN) (m : PostMod) (i : RI) (im : PostMod) (s : State), n ≠ i.rn → s.progReadable (s.ptr n) = true →
    s.writable (s.ptr i.rn) = true → Memory.wf s.dmem = true →
    ∃ t, exec (.movpIndInd i im n m) s = .next t ∧ stored s.dmem t.dmem (s.ptr i.rn) (Memory.word s.pmem (s.ptr n)) ∧
      t = { (s.bump n m).bump i.rn im with dmem := t.dmem }) ∧
  (∀ (m : PostMod) (i : RI) (im : PostMod) (s : State), s.progReadable (s.ptr i.rn) = true →
    s.writable (s.ptr i.rn) = true → Memory.wf s.dmem = true →
    ∃ t p, exec (.movpIndInd i im i.rn m) s = .next t ∧
      stored s.dmem t.dmem (s.ptr i.rn) (Memory.word s.pmem (s.ptr i.rn)) ∧
      t = { s.setPtr i.rn p with dmem := t.dmem, freeCtr := s.freeCtr + 1 }) ∧
  (∀ (i : RI) (im : PostMod) (j : RJ) (jm : PostMod) (s : State), s.ptr j.rn ≠ s.pc → s.ptr j.rn ≠ s.pc - 1 →
    s.readable (s.ptr i.rn) = true → s.progWritable (s.ptr j.rn) = true → Memory.wf s.pmem = true →
    ∃ t, exec (.movd i im j jm) s = .next t ∧ stored s.pmem t.pmem (s.ptr j.rn) (Memory.word s.dmem (s.ptr i.rn)) ∧
      t = { (s.bump i.rn im).bump j.rn jm with pmem := t.pmem }) ∧
  (∀ (i : RI) (im : PostMod) (j : RJ) (jm : PostMod) (s : State), s.ptr j.rn = s.pc ∨ s.ptr j.rn = s.pc - 1 →
    exec (.movd i im j jm) s = .refused .movdSelf)

/-- R374 to R376: `movr` puts the word into the high part and adds 0x8000, with the flags of the addition.
The operation and its flags are the spec's decision D28 (log 31). -/
def Obligations.MoveRound : Prop :=
  ∀ (i : Instr) (x : Src) (d : AB) (s : State), roundView i = some (x, d) → ready x s = true →
    exec i s = .next
      (let r := plus s.flags (BitVec.ofInt 36 ((value x s).toInt * 65536)) 0x8000
       { rest x s with accs := s.accs.set d r.1, flags := r.2 })

/-- R390, R392: `swap` permutes or copies the accumulators as its option says, all on the values before it; `banke` exchanges
the pairs its four bits select.
That the bank field 0000 of `banke` exchanges nothing is the spec's own inference (R392, from R149). -/
def Obligations.Exchanges : Prop :=
  (∀ (o : SwapOp) (s : State),
    exec (.swap o) s = .next
      { s with
        accs := { a0 := s.accs.get (swapSources o).1.1, a1 := s.accs.get (swapSources o).1.2.1,
                  b0 := s.accs.get (swapSources o).1.2.2.1, b1 := s.accs.get (swapSources o).1.2.2.2 }
        flags := zmne s.flags (s.accs.get (swapSources o).2) }) ∧
  (∀ (k : BitVec 4) (s : State), ∃ t, exec (.banke k) s = .next t ∧ t = { s with dau := t.dau } ∧
    (if k.getLsbD 3 then t.dau.r0 = s.dau.r0b ∧ t.dau.r0b = s.dau.r0 else t.dau.r0 = s.dau.r0 ∧ t.dau.r0b = s.dau.r0b) ∧
    (if k.getLsbD 2 then t.dau.r1 = s.dau.r1b ∧ t.dau.r1b = s.dau.r1 else t.dau.r1 = s.dau.r1 ∧ t.dau.r1b = s.dau.r1b) ∧
    (if k.getLsbD 1 then t.dau.r4 = s.dau.r4b ∧ t.dau.r4b = s.dau.r4 else t.dau.r4 = s.dau.r4 ∧ t.dau.r4b = s.dau.r4b) ∧
    (if k.getLsbD 0 then t.dau.cfgi = s.dau.cfgib ∧ t.dau.cfgib = s.dau.cfgi
     else t.dau.cfgi = s.dau.cfgi ∧ t.dau.cfgib = s.dau.cfgib) ∧
    t.dau.r2 = s.dau.r2 ∧ t.dau.r3 = s.dau.r3 ∧ t.dau.r5 = s.dau.r5 ∧ t.dau.cfgj = s.dau.cfgj ∧ t.dau.rb = s.dau.rb ∧
    t.dau.sp = s.dau.sp ∧ t.dau.mixp = s.dau.mixp)

/-- R38, R83, R85, R96, R99, D2, D12: what an access answers, by what stands behind the address: a stored word of ram or rom is
read, a word of ram is written, a device answers some word or takes the word and the access is shown to the outside, an
access to nothing is refused, as is a `movd` to ROM; a data write to ROM goes on and leaves the word. A register of 16 bits is read and any register written where the chip
has it, and every access to an extX that the chip does not have is refused. An extX that is a device answers some word or
takes the word, and the access is shown; one that is a plain register holds it.
What stands behind an address, and what an extX is, are the chip's (logs 13, 22, 61), the ROM that keeps its word is log 63. -/
def Obligations.AccessStops : Prop :=
  (∀ (s : State) (a : Word) (k : Word → State → Out),
    (s.readable a = true → readData s a k = k (Memory.word s.dmem a) s) ∧
    (regionKind s.chip.dataMap a = .device → ∃ w, readData s a k = k w
      { s with
        out := { s.out with bus := s.out.bus ++ [{ space := .data, address := a, write := none }] }
        freeCtr := s.freeCtr + 1 }) ∧
    (regionKind s.chip.dataMap a = .nothing → readData s a k = .refused .dataAbsent) ∧
    (s.progReadable a = true → readProg s a k = k (Memory.word s.pmem a) s) ∧
    (regionKind s.chip.progMap a = .device → ∃ w, readProg s a k = k w
      { s with
        out := { s.out with bus := s.out.bus ++ [{ space := .program, address := a, write := none }] }
        freeCtr := s.freeCtr + 1 }) ∧
    (regionKind s.chip.progMap a = .nothing → readProg s a k = .refused .progAbsent)) ∧
  (∀ (s : State) (a v : Word) (k : State → Out),
    (s.writable a = true → ∃ m, writeData s a v k = k { s with dmem := m } ∧
      (Memory.wf s.dmem = true → stored s.dmem m a v)) ∧
    (regionKind s.chip.dataMap a = .rom → writeData s a v k = k s) ∧
    (regionKind s.chip.dataMap a = .device → writeData s a v k = k
      { s with out := { s.out with bus := s.out.bus ++ [{ space := .data, address := a, write := some v }] } }) ∧
    (regionKind s.chip.dataMap a = .nothing → writeData s a v k = .refused .dataAbsent) ∧
    (s.progWritable a = true → ∃ m, writeProg s a v k = k { s with pmem := m } ∧
      (Memory.wf s.pmem = true → stored s.pmem m a v)) ∧
    (regionKind s.chip.progMap a = .rom → writeProg s a v k = .refused .progRomWrite) ∧
    (regionKind s.chip.progMap a = .device → writeProg s a v k = k
      { s with out := { s.out with bus := s.out.bus ++ [{ space := .program, address := a, write := some v }] } }) ∧
    (regionKind s.chip.progMap a = .nothing → writeProg s a v k = .refused .progAbsent)) ∧
  (∀ (s : State) (r : Reg) (v : Word) (k : Word → State → Out),
    (s.hasReg r = false →
      readReg s r k = .refused .extAbsent ∧ readMovSource s r k = .refused .extAbsent ∧
        writeMovDest s r v = .refused .extAbsent) ∧
    (s.hasReg r = true →
      (r.is16 = true → readReg s r k = k (s.regValue r) (s.afterRead r)) ∧ writeMovDest s r v = .next (landed s r v))) ∧
  (∀ (s : State) (r : Reg), s.hasReg r = false ↔ ∃ c, userCode r = some c ∧ userKind s.chip c = .absent) ∧
  (∀ (s : State) (r : Reg) (c v : Word) (k : Word → State → Out), userCode r = some c →
    (userKind s.chip c = .device →
      (∃ w, readReg s r k = k w
        { s with
          out := { s.out with bus := s.out.bus ++ [{ space := .user, address := c, write := none }] }
          freeCtr := s.freeCtr + 1 }) ∧
      writeMovDest s r v = .next
        { s with out := { s.out with bus := s.out.bus ++ [{ space := .user, address := c, write := some v }] } }) ∧
    (userKind s.chip c = .plain →
      readReg s r k = k (userWord s.ext c) s ∧
      ∃ e, writeMovDest s r v = .next { s with ext := e } ∧ userWord e c = v ∧
        ∀ d : Word, d.toNat < 4 → d ≠ c → userWord e d = userWord s.ext d)) ∧
  (∀ (s : State) (r : Reg), userCode r = none →
    s.afterRead r = if r = .st1 ∨ r = .st2 then { s with freeCtr := s.freeCtr + 1 } else s)

/-! ### The loops -/

/-- R400, R401: `rep` loads repc and puts the next instruction under repetition.
That an accumulator part supplies its raw bits is the spec's decision D7 (log 17). -/
def Obligations.Repeat : Prop :=
  ∀ (i : Instr) (c : Count) (s : State), repView i = some c → countReady c s = true →
    exec i s = .next
      { countRest c s with loops := { s.loops with repc := countValue c s, repActive := true } }

/-- R404, R405, R410: `bkrep` opens a level: its first address is the one after the instruction, its last the operand word, lc
the count, the enclosing counter saved. A fifth level, a loop of fewer than two words, a last address in use and `bkrep lc`
inside a loop are refused.
The first address and the count are the spec's decision D32 (log 35), the refusals logs 46 and 58. -/
def Obligations.BlockRepeat : Prop :=
  ∀ (i : Instr) (c : Count) (last : Word) (s : State), bkrepView i = some (c, last) → countReady c s = true →
    (s.icr.bc.toNat < 4 → s.pc.toNat < last.toNat →
      (∀ k, 1 ≤ k → k ≤ s.icr.bc.toNat → (s.loops.level k).last ≠ last) → ¬ (c = .reg .lc ∧ s.icr.bc ≠ 0) →
      ∃ t, exec i s = .next t ∧
        t = { countRest c s with icr := { s.icr with bc := s.icr.bc + 1, lp := true }, loops := t.loops } ∧
        t.loops.lc = countValue c s ∧ t.loops.repc = s.loops.repc ∧ t.loops.repActive = s.loops.repActive ∧
        t.loops.repSavedActive = s.loops.repSavedActive ∧ t.loops.repSavedC = s.loops.repSavedC ∧
        t.loops.repSavedAddr = s.loops.repSavedAddr ∧
        (t.loops.level (s.icr.bc.toNat + 1)).start = s.pc ∧ (t.loops.level (s.icr.bc.toNat + 1)).last = last ∧
        (s.icr.bc ≠ 0 → (t.loops.level (s.icr.bc.toNat + 1)).savedLc = s.loops.lc) ∧
        (∀ k, 1 ≤ k → k ≤ 4 → k ≠ s.icr.bc.toNat + 1 → t.loops.level k = s.loops.level k)) ∧
    (c = .reg .lc → s.icr.bc ≠ 0 → exec i s = .refused (.excludedOperand (Memory.word s.pmem (s.pc - 2)) (s.pc - 2))) ∧
    (¬ (c = .reg .lc ∧ s.icr.bc ≠ 0) → 4 ≤ s.icr.bc.toNat → exec i s = .refused .loopTooDeep) ∧
    (¬ (c = .reg .lc ∧ s.icr.bc ≠ 0) → s.icr.bc.toNat < 4 → last.toNat ≤ s.pc.toNat → exec i s = .refused .loopTooShort) ∧
    (¬ (c = .reg .lc ∧ s.icr.bc ≠ 0) → s.icr.bc.toNat < 4 → s.pc.toNat < last.toNat →
      (∃ k, 1 ≤ k ∧ k ≤ s.icr.bc.toNat ∧ (s.loops.level k).last = last) → exec i s = .refused .loopSameLast)

/-- R402, R406: what a step adds after an instruction, t being the state its meaning left. Under repetition: the same
instruction again with repc one less, or the end of the repeat. Just behind the last address of the innermost block-repeat
level: back to the first address with lc one less, or the level popped with the enclosing counter restored.
The order of test and decrement under repetition is the spec's own inference (R402). -/
def Obligations.LoopEnds : Prop :=
  (∀ (s t : State) (tr : Traits), s.svc.dret = none → s.loops.repActive = true →
    (t.loops.repc = 0 → t.control s tr s.pc = { t with loops := { t.loops with repActive := false } }) ∧
    (t.loops.repc ≠ 0 → t.control s tr s.pc = { t with pc := s.pc, loops := { t.loops with repc := t.loops.repc - 1 } })) ∧
  (∀ (s t : State) (tr : Traits), s.svc.dret = none → s.loops.repActive = false → t.icr.lp = true → t.icr.bc ≠ 0 →
    t.pc = s.pc + BitVec.ofNat 16 tr.words → (t.loops.level t.icr.bc.toNat).last + 1 = t.pc →
    (t.loops.lc ≠ 0 → t.control s tr s.pc =
      { t with pc := (t.loops.level t.icr.bc.toNat).start, loops := { t.loops with lc := t.loops.lc - 1 } }) ∧
    (t.loops.lc = 0 → t.control s tr s.pc =
      { t with
        icr := { t.icr with bc := t.icr.bc - 1, lp := decide (t.icr.bc ≠ 1) }
        loops := { t.loops with lc := if t.icr.bc = 1 then 0 else (t.loops.level t.icr.bc.toNat).savedLc } })) ∧
  (∀ (s t : State) (tr : Traits), s.svc.dret = none → s.loops.repActive = false →
    t.icr.lp = false ∨ t.pc ≠ s.pc + BitVec.ofNat 16 tr.words ∨ (t.loops.level t.icr.bc.toNat).last + 1 ≠ t.pc →
    t.control s tr s.pc = t)

/-- R408, R410: `break` pops the innermost level and does not jump; outside a loop it is refused.
The refusal is log 46 (R410, U17). -/
def Obligations.Break : Prop :=
  (∀ s : State, s.icr.bc ≠ 0 → s.icr.lp = true →
    exec .breakLoop s = .next
      { s with
        icr := { s.icr with bc := s.icr.bc - 1, lp := decide (s.icr.bc ≠ 1) }
        loops := { s.loops with lc := if s.icr.bc = 1 then s.loops.lc else (s.loops.level s.icr.bc.toNat).savedLc } }) ∧
  (∀ s : State, s.icr.bc = 0 → exec .breakLoop s = .refused .breakOutsideLoop)

/-! ### Branches, calls, returns -/

/-- R421, R422: `br` and `brr` change pc alone, and only where the condition holds; pc is the address after the instruction.
That the target of `brr` is taken modulo 2^16 is the spec's decision D3 (R420 d, log 14). -/
def Obligations.Branches : Prop :=
  ∀ (i : Instr) (c : Cond) (g : Goal) (s : State), branchView i = some (c, g) →
    exec i s = .next (if holds c s then { s with pc := goal g s } else s)

/-- R423 to R425, R111: a taken call pushes the address after it and jumps; one not taken changes nothing, but where the
word below the stack is in Zspace that word is written all the same.
The word written by a call not taken is the spec's decision D17 (log 26). -/
def Obligations.Calls : Prop :=
  ∀ (i : Instr) (c : Cond) (g : Goal) (s : State), callView i = some (c, g) →
    (holds c s = true → s.writable (s.dau.sp - 1) = true → Memory.wf s.dmem = true →
      ∃ t, exec i s = .next t ∧ stored s.dmem t.dmem (s.dau.sp - 1) s.pc ∧
        t = { s with pc := goal g s, dau := { s.dau with sp := s.dau.sp - 1 }, dmem := t.dmem }) ∧
    (holds c s = false → (s.dau.sp - 1).toNat < s.chip.xramconf.toNat * 1024 ∨
        s.chip.yramconf.toNat * 1024 ≤ (s.dau.sp - 1).toNat → exec i s = .next s) ∧
    (holds c s = false → s.chip.xramconf.toNat * 1024 ≤ (s.dau.sp - 1).toNat →
      (s.dau.sp - 1).toNat < s.chip.yramconf.toNat * 1024 → s.writable (s.dau.sp - 1) = true → Memory.wf s.dmem = true →
      ∃ t, exec i s = .next t ∧ stored s.dmem t.dmem (s.dau.sp - 1) s.pc ∧ t = { s with dmem := t.dmem })

/-- R430, R432, R434, R463: `ret`, `reti`, `rets` pop pc; `reti` sets IE, ends the innermost of in_trap and in_nmi and, with the
option, restores the context; `rets` drops its parameters.
The service state that ends, the unsigned immediate and the resumed repeat are the spec's decisions D33, D34, D9 (logs 36, 37,
19). -/
def Obligations.Returns : Prop :=
  ∀ s : State, s.readable s.dau.sp = true →
    (∀ c, holds c s = true →
      exec (.ret c) s = .next
        (jumpBack { s with dau := { s.dau with sp := s.dau.sp + 1 } } (Memory.word s.dmem s.dau.sp))) ∧
    (∀ c ctx, holds c s = true →
      exec (.reti ctx c) s = .next
        (let t := served (jumpBack { s with dau := { s.dau with sp := s.dau.sp + 1 } } (Memory.word s.dmem s.dau.sp))
         let u := { t with svc := { t.svc with afterTrap := s.svc.inTrap } }
         if ctx then restored u else u)) ∧
    (∀ v : BitVec 8,
      exec (.rets v) s = .next
        (jumpBack { s with dau := { s.dau with sp := s.dau.sp + 1 + v.setWidth 16 } } (Memory.word s.dmem s.dau.sp)))

/-- R436, R440: `retd` and `retid` pop the target and open a delay slot of two cycles; `retid` sets IE and ends the innermost
service state at once.
When the service state ends is the spec's decision D33 (log 36). -/
def Obligations.DelayedReturns : Prop :=
  ∀ s : State, s.readable s.dau.sp = true →
    exec .retd s = .next
      { s with
        dau := { s.dau with sp := s.dau.sp + 1 }
        svc := { s.svc with dret := some { target := Memory.word s.dmem s.dau.sp, left := 2, fromTrap := false } } } ∧
    exec .retid s = .next
      { served s with
        dau := { s.dau with sp := s.dau.sp + 1 }
        svc := { (served s).svc with
          dret := some { target := Memory.word s.dmem s.dau.sp, left := 2, fromTrap := s.svc.inTrap } } }

/-- R442: what a step adds after an instruction in a delay slot, t being the state its meaning left: the jump when the slot's
cycles are used up, otherwise the cycles left. With the jump a repeat saved at the target resumes (R403), the return from
TRAP/BI is marked for the next instruction (R523), and nothing else changes: lc, the block-repeat levels and icr stay.
No end-of-loop action at the jump is the spec's decision D35 (log 38), the resumed repeat D9 (log 19), the cycles D40 (log 23), the
instruction that takes the mark its inference (R523). -/
def Obligations.DelaySlot : Prop :=
  ∀ (i : Instr) (s t : State) (d : DelayedReturn), s.svc.dret = some d →
    (d.left ≤ cycleCount i s →
      t.control s (Instr.traits i) s.pc =
        { jumpBack t d.target with svc := { t.svc with dret := none, afterTrap := d.fromTrap } } ∧
      (t.control s (Instr.traits i) s.pc).loops.lc = t.loops.lc ∧ (t.control s (Instr.traits i) s.pc).icr = t.icr ∧
      ∀ k, (t.control s (Instr.traits i) s.pc).loops.level k = t.loops.level k) ∧
    (cycleCount i s < d.left →
      t.control s (Instr.traits i) s.pc =
        { t with svc := { t.svc with dret := some { d with left := d.left - cycleCount i s } } })

/-! ### Control, pointers, context, registers -/

/-- R450, R452, R453, R455 to R458: `nop` changes nothing; `eint` and `dint` change IE; each `load` changes its one field. -/
def Obligations.ControlInstructions : Prop :=
  ∀ s : State,
    exec .nop s = .next s ∧
    exec .eint s = .next { s with stat := { s.stat with ie := true } } ∧
    exec .dint s = .next { s with stat := { s.stat with ie := false } } ∧
    (∀ v, exec (.loadPage v) s = .next { s with stat := { s.stat with page := v } }) ∧
    (∀ v, exec (.loadPs v) s = .next { s with stat := { s.stat with ps := v } }) ∧
    (∀ v, exec (.loadModi v) s =
      .next { s with dau := { s.dau with cfgi := BitVec.ofNat 16 (v.toNat * 128 + s.dau.cfgi.toNat % 128) } }) ∧
    (∀ v, exec (.loadModj v) s =
      .next { s with dau := { s.dau with cfgj := BitVec.ofNat 16 (v.toNat * 128 + s.dau.cfgj.toNat % 128) } }) ∧
    (∀ v, exec (.loadStepi v) s =
      .next { s with dau := { s.dau with cfgi := BitVec.ofNat 16 (s.dau.cfgi.toNat / 128 * 128 + v.toNat) } }) ∧
    (∀ v, exec (.loadStepj v) s =
      .next { s with dau := { s.dau with cfgj := BitVec.ofNat 16 (s.dau.cfgj.toNat / 128 * 128 + v.toNat) } })

/-- R451, R105: `modr` post-modifies rN, linearly with dmod or with Mn clear, and R reports whether the new rN is zero. The
same amount is what every (rN) operand adds.
The pointer left alone with no modification, and R for it, are the spec's own inferences (R105, R451). -/
def Obligations.ModifyPointer : Prop :=
  (∀ (dmod : Bool) (n : RN) (m : PostMod) (s : State),
    exec (.modr dmod n m) s = .next
      { s.setPtr n (nextPointer s n m (s.moduloOn n && !dmod)) with
        flags := { s.flags with r := decide (nextPointer s n m (s.moduloOn n && !dmod) = 0) } }) ∧
  (∀ (n : RN) (v : Word) (s : State), s.setPtr n v = { s with dau := pointersWith s.dau n v }) ∧
  (∀ (n : RN) (m : PostMod) (s : State), s.bump n m = s.setPtr n (nextPointer s n m (s.moduloOn n)) ∧
    (s.bump n m).ptr n = nextPointer s n m (s.moduloOn n) ∧
    ∀ k, k ≠ n → (s.bump n m).ptr k = s.ptr k)

/-- R106, R107: the modulo step changes only the low k bits of the pointer: from the top of the buffer a step forward goes to
its base, from the base a step backward goes to its top, every other step is a sum modulo 2^k; MODx = 0 leaves the pointer.
Under the constraints of R107 a pointer within its buffer of M = MODx + |q| words stays within it.
The number k is the spec's decision D8 (log 18). -/
def Obligations.ModuloStep : Prop :=
  ∀ (r : Word) (q : Int) (modx k : Nat), -64 ≤ q → q ≤ 63 → modx < 512 →
    (modx = 0 → moduloStep r q modx = r) ∧
    (modx ≠ 0 → moduloWidth modx q k →
      (moduloStep r q modx).toNat / 2 ^ k = r.toNat / 2 ^ k ∧
      (0 ≤ q → r.toNat % 2 ^ k = modx % 2 ^ k → (moduloStep r q modx).toNat % 2 ^ k = 0) ∧
      (q < 0 → r.toNat % 2 ^ k = 0 → (moduloStep r q modx).toNat % 2 ^ k = modx % 2 ^ k) ∧
      ((0 ≤ q ∧ r.toNat % 2 ^ k ≠ modx % 2 ^ k) ∨ (q < 0 ∧ r.toNat % 2 ^ k ≠ 0) →
        (((moduloStep r q modx).toNat % 2 ^ k : Nat) : Int) = ((r.toNat % 2 ^ k : Nat) + q) % 2 ^ k) ∧
      (r.toNat % 2 ^ k < modx + q.natAbs →
        modx + q.natAbs = 2 ^ k ∨ (q ≠ 0 ∧ q.natAbs ∣ modx ∧ q.natAbs ∣ r.toNat % 2 ^ k) →
        (moduloStep r q modx).toNat % 2 ^ k < modx + q.natAbs))

/-- R460 to R463: `cntx s` copies the shadowed bits, exchanges PAGE with its alternative and a1 with b1, and takes the flags of
the new a1; `cntx r` undoes it, so that a store followed by a restore leaves all but the shadow as it was. -/
def Obligations.ContextSwitch : Prop :=
  ∀ s : State,
    exec .cntxS s = .next (saved s) ∧ exec .cntxR s = .next (restored s) ∧
    (restored (saved s)).flags = s.flags ∧ (restored (saved s)).accs = s.accs ∧ (restored (saved s)).stat = s.stat ∧
    (restored (saved s)).shadow.altPage = s.shadow.altPage

/-- R62, R63, R30: what a write to a register leaves: what the register reads as afterwards, the read-only and reserved bits
of st1 and st2 discarded, ph alone written through p, a whole accumulator written through its parts; no other register
or field of the machine changes: a plain register code names one field, st0 takes the flags, IM1, IM0, IE, SAT and the extension of a0, st1 takes PS, PAGE and the extension of a1, st2
takes OU1, OU0, S, IM2 and the modulo bits, and nothing else (R40 to R42: which bit is which). Bits 15..13, 11 and 10 of st2
read the pins of INT1, INT0, INT2, IUSER1, IUSER0 (R42, R59).
A plain extX reads back what was written, and a write to one that is a device is shown to the outside and changes nothing
else (D12, log 22); the reserved bits are free values (log 6). -/
def Obligations.RegisterWrite : Prop :=
  (∀ (s : State) (r : Reg) (v : Word), r ≠ .a0 → r ≠ .a1 → r ≠ .p → r ≠ .st1 → r ≠ .st2 → s.extKind r ≠ .device →
    (s.setReg r v).regValue r = v) ∧
  (∀ (s : State) (r : Reg) (c v : Word), userCode r = some c → s.extKind r = userKind s.chip c ∧ (s.extKind r = .device →
    s.setReg r v =
      { s with out := { s.out with bus := s.out.bus ++ [{ space := .user, address := c, write := some v }] } }) ∧
    (s.extKind r = .plain → ∃ e, s.setReg r v = { s with ext := e } ∧ userWord e c = v ∧
      ∀ d : Word, d.toNat < 4 → d ≠ c → userWord e d = userWord s.ext d)) ∧
  (∀ (s : State) (r : Reg) (v : Word) (t : State), fieldWrite s r v = some t → s.setReg r v = t) ∧
  (∀ (s : State) (r : Reg), userCode r = none → s.extKind r = .plain) ∧
  (∀ (s : State) (v : Word),
    s.setReg .st0 v = { s with
      accs := s.accs.set .a0 (extended s.accs.a0 (v.toNat / 4096))
      flags := {
        z := v.getLsbD 11, m := v.getLsbD 10, n := v.getLsbD 9, v := v.getLsbD 8
        c := v.getLsbD 7, e := v.getLsbD 6, l := v.getLsbD 5, r := v.getLsbD 4 }
      stat := { s.stat with
        im1 := v.getLsbD 3, im0 := v.getLsbD 2, ie := v.getLsbD 1, sat := v.getLsbD 0 } }) ∧
  (∀ (s : State) (v : Word),
    s.setReg .st1 v = { s with
      accs := s.accs.set .a1 (extended s.accs.a1 (v.toNat / 4096))
      stat := { s.stat with ps := BitVec.ofNat 2 (v.toNat / 1024), page := BitVec.ofNat 8 v.toNat } }) ∧
  (∀ (s : State) (v : Word),
    s.setReg .st2 v = { s with
      stat := { s.stat with
        ou1 := v.getLsbD 9, ou0 := v.getLsbD 8, s := v.getLsbD 7, im2 := v.getLsbD 6
        modulo := BitVec.ofNat 6 v.toNat } }) ∧
  (∀ (s : State) (v : Word) (b : BitVec 2),
    ((s.setReg .st1 v).st1 b).extractLsb' 10 6 = v.extractLsb' 10 6 ∧
    ((s.setReg .st1 v).st1 b).extractLsb' 0 8 = v.extractLsb' 0 8 ∧ ((s.setReg .st1 v).st1 b).extractLsb' 8 2 = b) ∧
  (∀ (s : State) (v : Word) (b : BitVec 1),
    ((s.setReg .st2 v).st2 b).extractLsb' 0 10 = v.extractLsb' 0 10 ∧
    ((s.setReg .st2 v).st2 b).getLsbD 15 = s.pins.int1 ∧ ((s.setReg .st2 v).st2 b).getLsbD 14 = s.pins.int0 ∧
    ((s.setReg .st2 v).st2 b).getLsbD 13 = s.pins.int2 ∧ ((s.setReg .st2 v).st2 b).getLsbD 12 = b.getLsbD 0 ∧
    ((s.setReg .st2 v).st2 b).getLsbD 11 = s.pins.iuser1 ∧ ((s.setReg .st2 v).st2 b).getLsbD 10 = s.pins.iuser0) ∧
  (∀ s : State, ∃ (b : BitVec 2) (c : BitVec 1), s.regValue .st1 = s.st1 b ∧ s.regValue .st2 = s.st2 c) ∧
  (∀ (a : Accs) (x : Acc), a.set .a0 x = { a with a0 := x } ∧ a.set .a1 x = { a with a1 := x } ∧
    a.set .b0 x = { a with b0 := x } ∧ a.set .b1 x = { a with b1 := x } ∧
    a.get .a0 = a.a0 ∧ a.get .a1 = a.a1 ∧ a.get .b0 = a.b0 ∧ a.get .b1 = a.b1) ∧
  (∀ (s : State) (v : Word), (s.setReg .p v).mul.p.toNat = v.toNat * 65536 + s.mul.p.toNat % 65536 ∧
    s.setReg .p v = { s with mul := { s.mul with p := (s.setReg .p v).mul.p, pu := false } }) ∧
  (∀ (s : State) (r : Reg) (v : Word) (i : AB) (x : Int), accWrite r v = some (i, x) →
    s.setReg r v = { s with accs := s.accs.set i (BitVec.ofInt 36 x) }) ∧
  (∀ (s : State) (r q : Reg) (v : Word), q ≠ r → accWrite r v = none → r ≠ .st0 → r ≠ .st1 → r ≠ .st2 →
    (s.setReg r v).regValue q = s.regValue q)

/-- R402, R407, R442, R621 to R624, R626: the forbidden sequences and placements. An instruction at a, in a state that has pc
after it, is refused with the first reason of `forbidden` that applies and runs where none applies; the reasons are those of
the rules, read off the instruction itself: index addressing after a write to rb, a delayed return after a write to sp,
`bkrep` after a write to icr, a read of mixp after `max`, `maxd` or `min`, an instruction that may not be repeated, one that
does not fit the delay slot, one barred near the end of a loop, a write to pc without its `nop` words. What each instruction
leaves for the check of the next is `marks`.
The refusals and their order are log 46, the list of the delay slot log 56, the words behind a write to pc logs 20 and 55. -/
def Obligations.ForbiddenSequences : Prop :=
  ∀ (i : Instr) (a : Word) (s : State),
    hazard (Instr.traits i) a s = ((forbidden i a s).find? (fun x => x.1)).map (fun x => x.2) ∧
    (Instr.traits i).asPrevious = marks i

/-- R73, R503, R520, R620 to R626, R640: what a step records after an instruction, over what the loops and the delay slot did:
icr_ctx_effective takes IC2, IC1, IC0, NMIC unless the instruction wrote icr, an instruction has completed since reset, the
instruction at a vector has executed, the next instruction sees this one's marks, the hold counters go on (HoldCounters);
nothing else changes.
After two writes to icr back to back icr_ctx_effective is as before both: the model's choice between two readings of R73
(log 60). One instruction at a vector, and the first boundary after reset, are the spec's decisions D39, D36 (logs 42, 39). -/
def Obligations.InstructionRecord : Prop :=
  ∀ (i : Instr) (s t : State),
    (Instr.traits i).cyclesIn s = cycleCount i s ∧
    t.finish s (Instr.traits i) =
      { t.control s (Instr.traits i) s.pc with
        svc := { (t.control s (Instr.traits i) s.pc).svc with
          hold := (t.finish s (Instr.traits i)).svc.hold
          started := true
          atVector := false
          prev := marks i
          icrCtx := if writesIcr i then t.svc.icrCtx else contextBits t.icr } }
end

