-- ==== Sys2Proof/Laws/Flags.lean ====
section
/-! SUPPORT. What the flag computations and the 36-bit arithmetic are as integers. -/

namespace Sys2Proof.Machine

/-- The sign bit of an accumulator, its signed and its unsigned value. -/
theorem Acc.msb_cases (x : Acc) :
    (x.msb = true ∧ x.toInt = x.toNat - 2 ^ 36 ∧ 2 ^ 35 ≤ x.toNat) ∨
    (x.msb = false ∧ x.toInt = x.toNat ∧ x.toNat < 2 ^ 35) := by
  have hx := x.isLt
  rw [BitVec.msb_eq_decide, BitVec.toInt_eq_toNat_cond]
  by_cases h : 2 ^ 35 ≤ x.toNat
  · left; simp; omega
  · right; simp; omega

/-- E is clear exactly for the values of 32 bits (R50). -/
theorem fits32_iff (x : Acc) : fits32 x = true ↔ -(2 ^ 31) ≤ x.toInt ∧ x.toInt < 2 ^ 31 := by
  have h : (x.extractLsb' 31 5).toNat = x.toNat / 2 ^ 31 % 32 := by
    simp [BitVec.extractLsb'_toNat, Nat.shiftRight_eq_div_pow]
  have hx := x.isLt
  simp only [fits32, Bool.or_eq_true, beq_iff_eq, ← BitVec.toNat_inj, h, BitVec.toInt_eq_toNat_cond]
  have h1 : (BitVec.allOnes 5).toNat = 31 := rfl
  have h0 : ((0 : BitVec 5)).toNat = 0 := rfl
  rw [h1, h0]
  split <;> omega

/-- The sum is the sum modulo 2^36; C is its carry; V says that it is no 36-bit number (R200). -/
theorem add36_int (a b : Acc) :
    (add36 a b).r = BitVec.ofInt 36 (a.toInt + b.toInt) ∧
    ((add36 a b).c = true ↔ 2 ^ 36 ≤ a.toNat + b.toNat) ∧
    ((add36 a b).v = true ↔ a.toInt + b.toInt < -(2 ^ 35) ∨ 2 ^ 35 ≤ a.toInt + b.toInt) := by
  refine ⟨?_, by simp [add36], ?_⟩
  · apply BitVec.eq_of_toInt_eq
    simp only [add36]
    rw [BitVec.toInt_add, BitVec.toInt_ofInt]
  have hs := BitVec.toNat_add a b
  unfold add36
  rcases Acc.msb_cases a with ⟨h1, h2, h3⟩ | ⟨h1, h2, h3⟩ <;>
    rcases Acc.msb_cases b with ⟨g1, g2, g3⟩ | ⟨g1, g2, g3⟩ <;>
    rcases Acc.msb_cases (a + b) with ⟨k1, k2, k3⟩ | ⟨k1, k2, k3⟩ <;>
    simp only [h1, g1, k1] <;> simp <;> omega

/-- The difference is the difference modulo 2^36; C is the borrow; V says that it is no 36-bit number (R200). -/
theorem sub36_int (a b : Acc) :
    (sub36 a b).r = BitVec.ofInt 36 (a.toInt - b.toInt) ∧
    ((sub36 a b).c = true ↔ a.toNat < b.toNat) ∧
    ((sub36 a b).v = true ↔ a.toInt - b.toInt < -(2 ^ 35) ∨ 2 ^ 35 ≤ a.toInt - b.toInt) := by
  refine ⟨?_, by simp [sub36], ?_⟩
  · apply BitVec.eq_of_toInt_eq
    simp only [sub36]
    rw [BitVec.toInt_sub, BitVec.toInt_ofInt]
  have hs := BitVec.toNat_sub a b
  unfold sub36
  rcases Acc.msb_cases a with ⟨h1, h2, h3⟩ | ⟨h1, h2, h3⟩ <;>
    rcases Acc.msb_cases b with ⟨g1, g2, g3⟩ | ⟨g1, g2, g3⟩ <;>
    rcases Acc.msb_cases (a - b) with ⟨k1, k2, k3⟩ | ⟨k1, k2, k3⟩ <;>
    simp only [h1, g1, k1] <;> simp <;> omega

/-- A left shift multiplies by a power of two. -/
theorem Acc.shl_int (x : Acc) (k : Nat) : x <<< k = BitVec.ofInt 36 (x.toInt * 2 ^ k) := by
  rw [BitVec.shiftLeft_eq_mul_twoPow, BitVec.ofInt_mul, BitVec.ofInt_toInt]
  congr 1
  apply BitVec.eq_of_toNat_eq
  rw [BitVec.toNat_twoPow, BitVec.toNat_ofInt]
  have : ((2 : Int) ^ k) = ((2 ^ k : Nat) : Int) := by norm_cast
  rw [this]
  norm_cast

/-- An arithmetic right shift divides by a power of two, downward. -/
theorem Acc.sar_int (x : Acc) (k : Nat) : x.sshiftRight k = BitVec.ofInt 36 (x.toInt / 2 ^ k) := by
  apply BitVec.eq_of_toInt_eq
  rw [BitVec.toInt_sshiftRight, BitVec.toInt_ofInt, Int.shiftRight_eq_div_pow]
  have h1 := BitVec.toInt_lt (x := x)
  have h2 := BitVec.le_toInt (x := x)
  have hk : (1 : Int) ≤ 2 ^ k := by exact_mod_cast Nat.one_le_two_pow
  rw [Int.bmod_eq_of_le]
  · norm_cast
  · have : -(2 ^ 35) ≤ x.toInt / 2 ^ k := by
      rw [Int.le_ediv_iff_mul_le (by omega)]; norm_num at h2; nlinarith
    simp; omega
  · have : x.toInt / 2 ^ k < 2 ^ 35 := by
      rw [Int.ediv_lt_iff_lt_mul (by omega)]; norm_num at h1; nlinarith
    simp; omega

/-- A logic right shift divides the unsigned value. -/
theorem Acc.shr_nat (x : Acc) (k : Nat) : x >>> k = BitVec.ofNat 36 (x.toNat / 2 ^ k) := by
  apply BitVec.eq_of_toNat_eq
  rw [BitVec.toNat_ushiftRight, Nat.shiftRight_eq_div_pow, BitVec.toNat_ofNat, Nat.mod_eq_of_lt]
  exact lt_of_le_of_lt (Nat.div_le_self _ _) x.isLt

/-- A word sign-extended to an accumulator has its signed value; zero-extended, its unsigned value (R201). -/
theorem Word.signExtend_int (v : Word) : v.signExtend 36 = BitVec.ofInt 36 v.toInt := by
  have h1 := BitVec.toInt_lt (x := v)
  have h2 := BitVec.le_toInt (x := v)
  apply BitVec.eq_of_toInt_eq
  rw [BitVec.toInt_signExtend_of_le (by omega), BitVec.toInt_ofInt, Int.bmod_eq_of_le] <;> simp <;> omega

theorem Word.setWidth_int (v : Word) : v.setWidth 36 = BitVec.ofInt 36 v.toNat := by
  apply BitVec.eq_of_toNat_eq
  rw [BitVec.toNat_setWidth, BitVec.toNat_ofInt]
  rfl

/-- A word in the high part has 65536 times its signed value (R30). -/
theorem highAcc_int (v : Word) : highAcc v = BitVec.ofInt 36 (v.toInt * 65536) := by
  have h1 := BitVec.toInt_lt (x := v)
  have h2 := BitVec.le_toInt (x := v)
  have e : highAcc v = v.signExtend 36 <<< 16 := by
    apply BitVec.eq_of_getLsbD_eq
    intro k hk
    simp only [highAcc, BitVec.getLsbD_append, BitVec.getLsbD_shiftLeft, BitVec.getLsbD_signExtend]
    by_cases h : k < 16
    · simp [h]
    · have h1 : k - 16 < 20 := by omega
      have h2 : k - 16 < 36 := by omega
      simp [h, h1, h2, hk]
  rw [e, Acc.shl_int, BitVec.toInt_signExtend_of_le (by omega)]
  norm_num

/-- `signRun x m` counts the bits from bit m-1 downward that equal the sign (R310). -/
theorem signRun_spec (x : Acc) : ∀ m, m ≤ 36 → signRun x m ≤ m ∧
    (∀ k, k < signRun x m → x.getLsbD (m - 1 - k) = x.msb) ∧
    (signRun x m = m ∨ x.getLsbD (m - 1 - signRun x m) ≠ x.msb) := by
  intro m
  induction m with
  | zero => intro _; simp [signRun]
  | succ m ih =>
    intro hm
    obtain ⟨h1, h2, h3⟩ := ih (by omega)
    unfold signRun
    split
    · rename_i h
      simp only [beq_iff_eq] at h
      refine ⟨by omega, ?_, ?_⟩
      · intro k hk
        rcases k with _ | k
        · simpa using h
        · rw [← h2 k (by omega)]; congr 1; omega
      · rcases h3 with h3 | h3
        · left; omega
        · by_cases e : signRun x m = m
          · left; omega
          · right
            rwa [show m + 1 - 1 - (signRun x m + 1) = m - 1 - signRun x m by omega]
    · rename_i h
      simp only [beq_iff_eq] at h
      refine ⟨by omega, by intro k hk; omega, ?_⟩
      right; simpa using h

/-- The flags of an arithmetic result leave R (R200). -/
@[simp] theorem Flags.arith_r (f : Flags) (o : AluOut) : (f.arith o).r = f.r := rfl
@[simp] theorem Flags.setZMNE_r (f : Flags) (x : Acc) : (f.setZMNE x).r = f.r := rfl
@[simp] theorem Flags.setZMNE_c (f : Flags) (x : Acc) : (f.setZMNE x).c = f.c := rfl
@[simp] theorem Flags.setZMNE_v (f : Flags) (x : Acc) : (f.setZMNE x).v = f.v := rfl
@[simp] theorem Flags.setZMNE_l (f : Flags) (x : Acc) : (f.setZMNE x).l = f.l := rfl
@[simp] theorem Flags.freeShift_r (f : Flags) (b : BitVec 7) : (f.freeShift b).r = f.r := rfl

end Sys2Proof.Machine
end

