-- ==== Sys2Proof/Laws/Memory.lean ====
section
/-! SUPPORT. The laws of memory: what a read gives after a write, of bytes and of words, and that every memory operation
keeps the canonical form and the space. -/

namespace Sys2Proof.Machine

/-- Every listed address is at least `lo`. -/
def Memory.above (lo : Nat) (m : List Host.Cell) : Prop := ∀ c ∈ m, lo ≤ c.1

theorem Memory.wf_cons {k : Nat} {x : BitVec 8} {m : List Host.Cell} (h : Memory.wf ((k, x) :: m) = true) :
    x ≠ Config.unlistedByte ∧ Memory.above (k + 1) m ∧ Memory.wf m = true := by
  induction m generalizing k x with
  | nil => exact ⟨by simpa [Memory.wf] using h, by simp [Memory.above], rfl⟩
  | cons c m ih =>
    obtain ⟨k', x'⟩ := c
    rw [Memory.wf] at h
    simp only [Bool.and_eq_true, bne_iff_ne, decide_eq_true_eq] at h
    obtain ⟨-, g2, -⟩ := ih h.2
    refine ⟨h.1.1, ?_, h.2⟩
    intro c hc
    rcases List.mem_cons.1 hc with rfl | hc
    · exact h.1.2
    · have := g2 c hc; omega

theorem Memory.wf_cons_of {k : Nat} {x : BitVec 8} {m : List Host.Cell} (hx : x ≠ Config.unlistedByte)
    (ha : Memory.above (k + 1) m) (hm : Memory.wf m = true) : Memory.wf ((k, x) :: m) = true := by
  cases m with
  | nil => simpa [Memory.wf] using hx
  | cons c m =>
    have := ha c (by simp)
    simp only [Memory.wf, Bool.and_eq_true, bne_iff_ne, decide_eq_true_eq] at hm ⊢
    exact ⟨⟨hx, by omega⟩, hm⟩

/-- Below every listed address an address reads as unlisted. -/
theorem Memory.get_above {m : List Host.Cell} {lo a : Nat} (h : Memory.above lo m) (ha : a < lo) :
    Memory.get m a = Config.unlistedByte := by
  induction m with
  | nil => rfl
  | cons c m ih =>
    obtain ⟨k, x⟩ := c
    have hk : lo ≤ k := h (k, x) (by simp)
    rw [Memory.get, if_neg (by omega)]
    exact ih fun c hc => h c (by simp [hc])

/-- A read after a write of a canonical memory: the value at the written address, the old value elsewhere. -/
theorem Memory.get_put {m : List Host.Cell} (hm : Memory.wf m = true) (a b : Nat) (v : BitVec 8) :
    Memory.get (Memory.put m a v) b = if b = a then v else Memory.get m b := by
  induction m with
  | nil =>
    by_cases hv : v = Config.unlistedByte <;> by_cases hb : b = a <;>
      simp [Memory.put, Memory.get, hv, hb, Ne.symm]
  | cons c m ih =>
    obtain ⟨k, x⟩ := c
    obtain ⟨-, h2, h3⟩ := Memory.wf_cons hm
    have hlow : ∀ y, y < k + 1 → Memory.get m y = Config.unlistedByte := fun y hy => Memory.get_above h2 hy
    by_cases g1 : a < k
    · by_cases hv : v = Config.unlistedByte
      · by_cases hb : b = a
        · subst hb
          have : k ≠ b := by omega
          simp [Memory.put, Memory.get, g1, hv, this, hlow b (by omega)]
        · simp [Memory.put, g1, hv, hb]
      · simp only [Memory.put, g1, hv, if_true, if_false, Memory.get]
        by_cases hb : b = a
        · simp [hb]
        · simp [hb, Ne.symm hb]
    · by_cases g2 : a = k
      · subst g2
        by_cases hv : v = Config.unlistedByte
        · by_cases hb : b = a
          · subst hb; simp [Memory.put, hv, hlow b (by omega)]
          · simp [Memory.put, Memory.get, hv, hb, Ne.symm hb]
        · by_cases hb : b = a
          · simp [Memory.put, Memory.get, hv, hb]
          · simp [Memory.put, Memory.get, hv, hb, Ne.symm hb]
      · simp only [Memory.put, g1, g2, if_false, Memory.get]
        by_cases hb : b = a
        · subst hb
          rw [if_neg (Ne.symm g2), ih h3, if_pos rfl, if_pos rfl]
        · by_cases hk : k = b
          · simp [hk, hb]
          · rw [if_neg hk, ih h3, if_neg hb, if_neg hb, if_neg hk]

theorem Memory.above_put {m : List Host.Cell} {lo a : Nat} {v : BitVec 8} (h : Memory.above lo m) (ha : lo ≤ a) :
    Memory.above lo (Memory.put m a v) := by
  induction m with
  | nil => unfold Memory.put; split <;> simp [Memory.above, ha]
  | cons c m ih =>
    obtain ⟨k, x⟩ := c
    have hk : lo ≤ k := h (k, x) (by simp)
    have hm : Memory.above lo m := fun c hc => h c (by simp [hc])
    unfold Memory.put
    split_ifs
    · exact h
    · intro c hc
      rcases List.mem_cons.1 hc with rfl | hc
      · exact ha
      · exact h c hc
    · exact hm
    · intro c hc
      rcases List.mem_cons.1 hc with rfl | hc
      · exact ha
      · exact hm c hc
    · intro c hc
      rcases List.mem_cons.1 hc with rfl | hc
      · exact hk
      · exact ih hm c hc

/-- A write keeps the canonical form. -/
theorem Memory.wf_put {m : List Host.Cell} (hm : Memory.wf m = true) (a : Nat) (v : BitVec 8) :
    Memory.wf (Memory.put m a v) = true := by
  induction m with
  | nil =>
    unfold Memory.put
    split
    · rfl
    · exact Memory.wf_cons_of ‹_› (by simp [Memory.above]) rfl
  | cons c m ih =>
    obtain ⟨k, x⟩ := c
    obtain ⟨h1, h2, h3⟩ := Memory.wf_cons hm
    unfold Memory.put
    split_ifs with g1 g2 g3 g4
    · exact hm
    · refine Memory.wf_cons_of g2 ?_ hm
      intro c hc
      rcases List.mem_cons.1 hc with rfl | hc
      · exact g1
      · have := h2 c hc; omega
    · exact h3
    · subst g3; exact Memory.wf_cons_of g4 h2 h3
    · exact Memory.wf_cons_of h1 (Memory.above_put h2 (by omega)) (ih h3)

/-- A write inside a space keeps the memory inside it. -/
theorem Memory.inSpace_put {m : List Host.Cell} (hm : Memory.inSpace m = true) {a : Nat} (ha : a < 131072) (v : BitVec 8) :
    Memory.inSpace (Memory.put m a v) = true := by
  induction m with
  | nil => unfold Memory.put; split <;> simp [Memory.inSpace, ha]
  | cons c m ih =>
    obtain ⟨k, x⟩ := c
    have h : k < 131072 ∧ Memory.inSpace m = true := by simpa [Memory.inSpace] using hm
    have ih' := ih h.2
    have hcons : ∀ (j : Nat) (y : BitVec 8) (n : List Host.Cell), j < 131072 → Memory.inSpace n = true →
        Memory.inSpace ((j, y) :: n) = true := fun j y n h1 h2 => by
      simpa [Memory.inSpace, h1] using h2
    unfold Memory.put
    split_ifs
    · exact hm
    · exact hcons _ _ _ ha hm
    · exact h.2
    · exact hcons _ _ _ ha h.2
    · exact hcons _ _ _ h.1 ih'

/-- A word reads back after it is written. -/
theorem Memory.word_setWord {m : List Host.Cell} (hm : Memory.wf m = true) (a v : Word) :
    Memory.word (Memory.setWord m a v) a = v := by
  unfold Memory.word Memory.setWord
  rw [Memory.get_put (Memory.wf_put hm _ _), Memory.get_put (Memory.wf_put hm _ _), if_pos rfl, if_neg (by omega),
    Memory.get_put hm, if_pos rfl]
  apply BitVec.eq_of_getLsbD_eq
  intro i hi
  rw [BitVec.getLsbD_append]
  by_cases h8 : i < 8
  · simp [h8]
  · have h1 : i - 8 < 8 := by omega
    have h2 : 8 + (i - 8) = i := by omega
    simp [h8, h1, h2]

/-- Writing a word leaves every other byte. -/
theorem Memory.get_setWord {m : List Host.Cell} (hm : Memory.wf m = true) (a v : Word) (k : Nat)
    (h0 : k ≠ 2 * a.toNat) (h1 : k ≠ 2 * a.toNat + 1) : Memory.get (Memory.setWord m a v) k = Memory.get m k := by
  unfold Memory.setWord
  rw [Memory.get_put (Memory.wf_put hm _ _), if_neg h1, Memory.get_put hm, if_neg h0]

/-- Writing a word leaves every other word. -/
theorem Memory.word_setWord_ne {m : List Host.Cell} (hm : Memory.wf m = true) {a b : Word} (v : Word) (h : b ≠ a) :
    Memory.word (Memory.setWord m a v) b = Memory.word m b := by
  have hne : b.toNat ≠ a.toNat := fun e => h (BitVec.eq_of_toNat_eq e)
  unfold Memory.word
  rw [Memory.get_setWord hm a v _ (by omega) (by omega), Memory.get_setWord hm a v _ (by omega) (by omega)]

/-- Writing a word keeps the canonical form. -/
theorem Memory.wf_setWord {m : List Host.Cell} (hm : Memory.wf m = true) (a v : Word) :
    Memory.wf (Memory.setWord m a v) = true := Memory.wf_put (Memory.wf_put hm _ _) _ _

/-- Writing a word keeps the memory inside its space. -/
theorem Memory.inSpace_setWord {m : List Host.Cell} (hm : Memory.inSpace m = true) (a v : Word) :
    Memory.inSpace (Memory.setWord m a v) = true := by
  have := a.isLt
  exact Memory.inSpace_put (Memory.inSpace_put hm (by omega) _) (by omega) _

/-- The memories after reset are canonical. -/
theorem Memory.wf_reset : Memory.wf State.reset.dmem = true ∧ Memory.wf State.reset.pmem = true := ⟨rfl, rfl⟩

end Sys2Proof.Machine
end

