-- ==== Sys2Proof/Laws/State.lean ====
section
/-! SUPPORT. The fields of State that each update leaves alone, and what an update of an accumulator, a pointer or a loop
level reads as afterwards: one lemma for each field of each update. -/

namespace Sys2Proof.Machine

/-! ### Accumulators, pointers, loop levels -/

@[simp] theorem Accs.get_set_self (a : Accs) (i : AB) (v : Acc) : (a.set i v).get i = v := by cases i <;> rfl
@[simp] theorem Accs.set_get (a : Accs) (i : AB) : a.set i (a.get i) = a := by cases i <;> rfl

theorem Accs.get_set_ne (a : Accs) {i j : AB} (v : Acc) (h : j ≠ i) : (a.set i v).get j = a.get j := by
  cases i <;> cases j <;> first | rfl | exact absurd rfl h

@[simp] theorem State.ptr_setPtr (s : State) (n : RN) (v : Word) : (s.setPtr n v).ptr n = v := by cases n <;> rfl

theorem State.ptr_setPtr_ne (s : State) {n k : RN} (v : Word) (h : k ≠ n) : (s.setPtr n v).ptr k = s.ptr k := by
  cases n <;> cases k <;> first | rfl | exact absurd rfl h

/-- A level of the block-repeat stack after one is replaced, for the levels 1 to 4. -/
theorem Loops.level_setLevel (l : Loops) {n k : Nat} (b : BlockLevel) (hn : 1 ≤ n ∧ n ≤ 4) (hk : 1 ≤ k ∧ k ≤ 4) :
    (l.setLevel n b).level k = if k = n then b else l.level k := by
  obtain ⟨h1, h2⟩ := hn
  obtain ⟨h3, h4⟩ := hk
  interval_cases n <;> interval_cases k <;> rfl

/-- Post-modification commutes with replacing the data memory. -/
theorem State.bump_dmem_comm (s : State) (n : RN) (m : PostMod) (d : List Host.Cell) :
    ({ s with dmem := d } : State).bump n m = { s.bump n m with dmem := d } := by cases n <;> rfl

/-- The same for program memory. -/
theorem State.bump_pmem_comm (s : State) (n : RN) (m : PostMod) (d : List Host.Cell) :
    ({ s with pmem := d } : State).bump n m = { s.bump n m with pmem := d } := by cases n <;> rfl

/-! ### `State.presentRead` -/

@[simp] theorem State.presentRead_pc (s : State) (p : Space) (a : Word) : (s.presentRead p a).pc = s.pc := rfl
@[simp] theorem State.presentRead_accs (s : State) (p : Space) (a : Word) : (s.presentRead p a).accs = s.accs := rfl
@[simp] theorem State.presentRead_mul (s : State) (p : Space) (a : Word) : (s.presentRead p a).mul = s.mul := rfl
@[simp] theorem State.presentRead_sv (s : State) (p : Space) (a : Word) : (s.presentRead p a).sv = s.sv := rfl
@[simp] theorem State.presentRead_dau (s : State) (p : Space) (a : Word) : (s.presentRead p a).dau = s.dau := rfl
@[simp] theorem State.presentRead_flags (s : State) (p : Space) (a : Word) : (s.presentRead p a).flags = s.flags := rfl
@[simp] theorem State.presentRead_stat (s : State) (p : Space) (a : Word) : (s.presentRead p a).stat = s.stat := rfl
@[simp] theorem State.presentRead_icr (s : State) (p : Space) (a : Word) : (s.presentRead p a).icr = s.icr := rfl
@[simp] theorem State.presentRead_loops (s : State) (p : Space) (a : Word) : (s.presentRead p a).loops = s.loops := rfl
@[simp] theorem State.presentRead_shadow (s : State) (p : Space) (a : Word) : (s.presentRead p a).shadow = s.shadow := rfl
@[simp] theorem State.presentRead_dvm (s : State) (p : Space) (a : Word) : (s.presentRead p a).dvm = s.dvm := rfl
@[simp] theorem State.presentRead_ext (s : State) (p : Space) (a : Word) : (s.presentRead p a).ext = s.ext := rfl
@[simp] theorem State.presentRead_svc (s : State) (p : Space) (a : Word) : (s.presentRead p a).svc = s.svc := rfl
@[simp] theorem State.presentRead_dmem (s : State) (p : Space) (a : Word) : (s.presentRead p a).dmem = s.dmem := rfl
@[simp] theorem State.presentRead_pmem (s : State) (p : Space) (a : Word) : (s.presentRead p a).pmem = s.pmem := rfl
@[simp] theorem State.presentRead_pins (s : State) (p : Space) (a : Word) : (s.presentRead p a).pins = s.pins := rfl
@[simp] theorem State.presentRead_chip (s : State) (p : Space) (a : Word) : (s.presentRead p a).chip = s.chip := rfl
@[simp] theorem State.presentRead_freeCtr (s : State) (p : Space) (a : Word) : (s.presentRead p a).freeCtr = s.freeCtr + 1 := rfl

/-! ### `State.presentWrite` -/

@[simp] theorem State.presentWrite_pc (s : State) (p : Space) (a v : Word) : (s.presentWrite p a v).pc = s.pc := rfl
@[simp] theorem State.presentWrite_accs (s : State) (p : Space) (a v : Word) : (s.presentWrite p a v).accs = s.accs := rfl
@[simp] theorem State.presentWrite_mul (s : State) (p : Space) (a v : Word) : (s.presentWrite p a v).mul = s.mul := rfl
@[simp] theorem State.presentWrite_sv (s : State) (p : Space) (a v : Word) : (s.presentWrite p a v).sv = s.sv := rfl
@[simp] theorem State.presentWrite_dau (s : State) (p : Space) (a v : Word) : (s.presentWrite p a v).dau = s.dau := rfl
@[simp] theorem State.presentWrite_flags (s : State) (p : Space) (a v : Word) : (s.presentWrite p a v).flags = s.flags := rfl
@[simp] theorem State.presentWrite_stat (s : State) (p : Space) (a v : Word) : (s.presentWrite p a v).stat = s.stat := rfl
@[simp] theorem State.presentWrite_icr (s : State) (p : Space) (a v : Word) : (s.presentWrite p a v).icr = s.icr := rfl
@[simp] theorem State.presentWrite_loops (s : State) (p : Space) (a v : Word) : (s.presentWrite p a v).loops = s.loops := rfl
@[simp] theorem State.presentWrite_shadow (s : State) (p : Space) (a v : Word) : (s.presentWrite p a v).shadow = s.shadow := rfl
@[simp] theorem State.presentWrite_dvm (s : State) (p : Space) (a v : Word) : (s.presentWrite p a v).dvm = s.dvm := rfl
@[simp] theorem State.presentWrite_ext (s : State) (p : Space) (a v : Word) : (s.presentWrite p a v).ext = s.ext := rfl
@[simp] theorem State.presentWrite_svc (s : State) (p : Space) (a v : Word) : (s.presentWrite p a v).svc = s.svc := rfl
@[simp] theorem State.presentWrite_dmem (s : State) (p : Space) (a v : Word) : (s.presentWrite p a v).dmem = s.dmem := rfl
@[simp] theorem State.presentWrite_pmem (s : State) (p : Space) (a v : Word) : (s.presentWrite p a v).pmem = s.pmem := rfl
@[simp] theorem State.presentWrite_pins (s : State) (p : Space) (a v : Word) : (s.presentWrite p a v).pins = s.pins := rfl
@[simp] theorem State.presentWrite_chip (s : State) (p : Space) (a v : Word) : (s.presentWrite p a v).chip = s.chip := rfl
@[simp] theorem State.presentWrite_freeCtr (s : State) (p : Space) (a v : Word) : (s.presentWrite p a v).freeCtr = s.freeCtr := rfl

/-! ### `State.setSt0` -/

@[simp] theorem State.setSt0_pc (s : State) (v : Word) : (s.setSt0 v).pc = s.pc := rfl
@[simp] theorem State.setSt0_mul (s : State) (v : Word) : (s.setSt0 v).mul = s.mul := rfl
@[simp] theorem State.setSt0_sv (s : State) (v : Word) : (s.setSt0 v).sv = s.sv := rfl
@[simp] theorem State.setSt0_dau (s : State) (v : Word) : (s.setSt0 v).dau = s.dau := rfl
@[simp] theorem State.setSt0_icr (s : State) (v : Word) : (s.setSt0 v).icr = s.icr := rfl
@[simp] theorem State.setSt0_loops (s : State) (v : Word) : (s.setSt0 v).loops = s.loops := rfl
@[simp] theorem State.setSt0_shadow (s : State) (v : Word) : (s.setSt0 v).shadow = s.shadow := rfl
@[simp] theorem State.setSt0_dvm (s : State) (v : Word) : (s.setSt0 v).dvm = s.dvm := rfl
@[simp] theorem State.setSt0_ext (s : State) (v : Word) : (s.setSt0 v).ext = s.ext := rfl
@[simp] theorem State.setSt0_svc (s : State) (v : Word) : (s.setSt0 v).svc = s.svc := rfl
@[simp] theorem State.setSt0_dmem (s : State) (v : Word) : (s.setSt0 v).dmem = s.dmem := rfl
@[simp] theorem State.setSt0_pmem (s : State) (v : Word) : (s.setSt0 v).pmem = s.pmem := rfl
@[simp] theorem State.setSt0_pins (s : State) (v : Word) : (s.setSt0 v).pins = s.pins := rfl
@[simp] theorem State.setSt0_out (s : State) (v : Word) : (s.setSt0 v).out = s.out := rfl
@[simp] theorem State.setSt0_chip (s : State) (v : Word) : (s.setSt0 v).chip = s.chip := rfl
@[simp] theorem State.setSt0_freeCtr (s : State) (v : Word) : (s.setSt0 v).freeCtr = s.freeCtr := rfl

/-! ### `State.setSt1` -/

@[simp] theorem State.setSt1_pc (s : State) (v : Word) : (s.setSt1 v).pc = s.pc := rfl
@[simp] theorem State.setSt1_mul (s : State) (v : Word) : (s.setSt1 v).mul = s.mul := rfl
@[simp] theorem State.setSt1_sv (s : State) (v : Word) : (s.setSt1 v).sv = s.sv := rfl
@[simp] theorem State.setSt1_dau (s : State) (v : Word) : (s.setSt1 v).dau = s.dau := rfl
@[simp] theorem State.setSt1_flags (s : State) (v : Word) : (s.setSt1 v).flags = s.flags := rfl
@[simp] theorem State.setSt1_icr (s : State) (v : Word) : (s.setSt1 v).icr = s.icr := rfl
@[simp] theorem State.setSt1_loops (s : State) (v : Word) : (s.setSt1 v).loops = s.loops := rfl
@[simp] theorem State.setSt1_shadow (s : State) (v : Word) : (s.setSt1 v).shadow = s.shadow := rfl
@[simp] theorem State.setSt1_dvm (s : State) (v : Word) : (s.setSt1 v).dvm = s.dvm := rfl
@[simp] theorem State.setSt1_ext (s : State) (v : Word) : (s.setSt1 v).ext = s.ext := rfl
@[simp] theorem State.setSt1_svc (s : State) (v : Word) : (s.setSt1 v).svc = s.svc := rfl
@[simp] theorem State.setSt1_dmem (s : State) (v : Word) : (s.setSt1 v).dmem = s.dmem := rfl
@[simp] theorem State.setSt1_pmem (s : State) (v : Word) : (s.setSt1 v).pmem = s.pmem := rfl
@[simp] theorem State.setSt1_pins (s : State) (v : Word) : (s.setSt1 v).pins = s.pins := rfl
@[simp] theorem State.setSt1_out (s : State) (v : Word) : (s.setSt1 v).out = s.out := rfl
@[simp] theorem State.setSt1_chip (s : State) (v : Word) : (s.setSt1 v).chip = s.chip := rfl
@[simp] theorem State.setSt1_freeCtr (s : State) (v : Word) : (s.setSt1 v).freeCtr = s.freeCtr := rfl

/-! ### `State.setSt2` -/

@[simp] theorem State.setSt2_pc (s : State) (v : Word) : (s.setSt2 v).pc = s.pc := rfl
@[simp] theorem State.setSt2_accs (s : State) (v : Word) : (s.setSt2 v).accs = s.accs := rfl
@[simp] theorem State.setSt2_mul (s : State) (v : Word) : (s.setSt2 v).mul = s.mul := rfl
@[simp] theorem State.setSt2_sv (s : State) (v : Word) : (s.setSt2 v).sv = s.sv := rfl
@[simp] theorem State.setSt2_dau (s : State) (v : Word) : (s.setSt2 v).dau = s.dau := rfl
@[simp] theorem State.setSt2_flags (s : State) (v : Word) : (s.setSt2 v).flags = s.flags := rfl
@[simp] theorem State.setSt2_icr (s : State) (v : Word) : (s.setSt2 v).icr = s.icr := rfl
@[simp] theorem State.setSt2_loops (s : State) (v : Word) : (s.setSt2 v).loops = s.loops := rfl
@[simp] theorem State.setSt2_shadow (s : State) (v : Word) : (s.setSt2 v).shadow = s.shadow := rfl
@[simp] theorem State.setSt2_dvm (s : State) (v : Word) : (s.setSt2 v).dvm = s.dvm := rfl
@[simp] theorem State.setSt2_ext (s : State) (v : Word) : (s.setSt2 v).ext = s.ext := rfl
@[simp] theorem State.setSt2_svc (s : State) (v : Word) : (s.setSt2 v).svc = s.svc := rfl
@[simp] theorem State.setSt2_dmem (s : State) (v : Word) : (s.setSt2 v).dmem = s.dmem := rfl
@[simp] theorem State.setSt2_pmem (s : State) (v : Word) : (s.setSt2 v).pmem = s.pmem := rfl
@[simp] theorem State.setSt2_pins (s : State) (v : Word) : (s.setSt2 v).pins = s.pins := rfl
@[simp] theorem State.setSt2_out (s : State) (v : Word) : (s.setSt2 v).out = s.out := rfl
@[simp] theorem State.setSt2_chip (s : State) (v : Word) : (s.setSt2 v).chip = s.chip := rfl
@[simp] theorem State.setSt2_freeCtr (s : State) (v : Word) : (s.setSt2 v).freeCtr = s.freeCtr := rfl

/-! ### `State.writeExt` -/

@[simp] theorem State.writeExt_pc (s : State) (k : ExtKind) (c v : Word) (e : ExtRegs) :
    (s.writeExt k c v e).pc = s.pc := by
  cases k <;> rfl
@[simp] theorem State.writeExt_accs (s : State) (k : ExtKind) (c v : Word) (e : ExtRegs) :
    (s.writeExt k c v e).accs = s.accs := by
  cases k <;> rfl
@[simp] theorem State.writeExt_mul (s : State) (k : ExtKind) (c v : Word) (e : ExtRegs) :
    (s.writeExt k c v e).mul = s.mul := by
  cases k <;> rfl
@[simp] theorem State.writeExt_sv (s : State) (k : ExtKind) (c v : Word) (e : ExtRegs) :
    (s.writeExt k c v e).sv = s.sv := by
  cases k <;> rfl
@[simp] theorem State.writeExt_dau (s : State) (k : ExtKind) (c v : Word) (e : ExtRegs) :
    (s.writeExt k c v e).dau = s.dau := by
  cases k <;> rfl
@[simp] theorem State.writeExt_flags (s : State) (k : ExtKind) (c v : Word) (e : ExtRegs) :
    (s.writeExt k c v e).flags = s.flags := by
  cases k <;> rfl
@[simp] theorem State.writeExt_stat (s : State) (k : ExtKind) (c v : Word) (e : ExtRegs) :
    (s.writeExt k c v e).stat = s.stat := by
  cases k <;> rfl
@[simp] theorem State.writeExt_icr (s : State) (k : ExtKind) (c v : Word) (e : ExtRegs) :
    (s.writeExt k c v e).icr = s.icr := by
  cases k <;> rfl
@[simp] theorem State.writeExt_loops (s : State) (k : ExtKind) (c v : Word) (e : ExtRegs) :
    (s.writeExt k c v e).loops = s.loops := by
  cases k <;> rfl
@[simp] theorem State.writeExt_shadow (s : State) (k : ExtKind) (c v : Word) (e : ExtRegs) :
    (s.writeExt k c v e).shadow = s.shadow := by
  cases k <;> rfl
@[simp] theorem State.writeExt_dvm (s : State) (k : ExtKind) (c v : Word) (e : ExtRegs) :
    (s.writeExt k c v e).dvm = s.dvm := by
  cases k <;> rfl
@[simp] theorem State.writeExt_svc (s : State) (k : ExtKind) (c v : Word) (e : ExtRegs) :
    (s.writeExt k c v e).svc = s.svc := by
  cases k <;> rfl
@[simp] theorem State.writeExt_dmem (s : State) (k : ExtKind) (c v : Word) (e : ExtRegs) :
    (s.writeExt k c v e).dmem = s.dmem := by
  cases k <;> rfl
@[simp] theorem State.writeExt_pmem (s : State) (k : ExtKind) (c v : Word) (e : ExtRegs) :
    (s.writeExt k c v e).pmem = s.pmem := by
  cases k <;> rfl
@[simp] theorem State.writeExt_pins (s : State) (k : ExtKind) (c v : Word) (e : ExtRegs) :
    (s.writeExt k c v e).pins = s.pins := by
  cases k <;> rfl
@[simp] theorem State.writeExt_chip (s : State) (k : ExtKind) (c v : Word) (e : ExtRegs) :
    (s.writeExt k c v e).chip = s.chip := by
  cases k <;> rfl
@[simp] theorem State.writeExt_freeCtr (s : State) (k : ExtKind) (c v : Word) (e : ExtRegs) :
    (s.writeExt k c v e).freeCtr = s.freeCtr := by
  cases k <;> rfl
@[simp] theorem State.writeExt_ack (s : State) (k : ExtKind) (c v : Word) (e : ExtRegs) :
    (s.writeExt k c v e).out.ack = s.out.ack := by
  cases k <;> rfl
@[simp] theorem State.writeExt_sft (s : State) (k : ExtKind) (c v : Word) (e : ExtRegs) :
    (s.writeExt k c v e).out.sft = s.out.sft := by
  cases k <;> rfl

/-! ### `State.setReg` -/

@[simp] theorem State.setReg_icr (s : State) (r : Reg) (v : Word) : (s.setReg r v).icr = s.icr := by
  cases r <;> first | rfl | simp [State.setReg]
@[simp] theorem State.setReg_shadow (s : State) (r : Reg) (v : Word) : (s.setReg r v).shadow = s.shadow := by
  cases r <;> first | rfl | simp [State.setReg]
@[simp] theorem State.setReg_dvm (s : State) (r : Reg) (v : Word) : (s.setReg r v).dvm = s.dvm := by
  cases r <;> first | rfl | simp [State.setReg]
@[simp] theorem State.setReg_svc (s : State) (r : Reg) (v : Word) : (s.setReg r v).svc = s.svc := by
  cases r <;> first | rfl | simp [State.setReg]
@[simp] theorem State.setReg_dmem (s : State) (r : Reg) (v : Word) : (s.setReg r v).dmem = s.dmem := by
  cases r <;> first | rfl | simp [State.setReg]
@[simp] theorem State.setReg_pmem (s : State) (r : Reg) (v : Word) : (s.setReg r v).pmem = s.pmem := by
  cases r <;> first | rfl | simp [State.setReg]
@[simp] theorem State.setReg_pins (s : State) (r : Reg) (v : Word) : (s.setReg r v).pins = s.pins := by
  cases r <;> first | rfl | simp [State.setReg]
@[simp] theorem State.setReg_chip (s : State) (r : Reg) (v : Word) : (s.setReg r v).chip = s.chip := by
  cases r <;> first | rfl | simp [State.setReg]
@[simp] theorem State.setReg_freeCtr (s : State) (r : Reg) (v : Word) : (s.setReg r v).freeCtr = s.freeCtr := by
  cases r <;> first | rfl | simp [State.setReg]
@[simp] theorem State.setReg_ack (s : State) (r : Reg) (v : Word) : (s.setReg r v).out.ack = s.out.ack := by
  cases r <;> first | rfl | simp [State.setReg]
@[simp] theorem State.setReg_sft (s : State) (r : Reg) (v : Word) : (s.setReg r v).out.sft = s.out.sft := by
  cases r <;> first | rfl | simp [State.setReg]

/-! ### `State.setPtr` -/

@[simp] theorem State.setPtr_pc (s : State) (n : RN) (v : Word) : (s.setPtr n v).pc = s.pc := by cases n <;> rfl
@[simp] theorem State.setPtr_accs (s : State) (n : RN) (v : Word) : (s.setPtr n v).accs = s.accs := by cases n <;> rfl
@[simp] theorem State.setPtr_mul (s : State) (n : RN) (v : Word) : (s.setPtr n v).mul = s.mul := by cases n <;> rfl
@[simp] theorem State.setPtr_sv (s : State) (n : RN) (v : Word) : (s.setPtr n v).sv = s.sv := by cases n <;> rfl
@[simp] theorem State.setPtr_flags (s : State) (n : RN) (v : Word) : (s.setPtr n v).flags = s.flags := by
  cases n <;> rfl
@[simp] theorem State.setPtr_stat (s : State) (n : RN) (v : Word) : (s.setPtr n v).stat = s.stat := by cases n <;> rfl
@[simp] theorem State.setPtr_icr (s : State) (n : RN) (v : Word) : (s.setPtr n v).icr = s.icr := by cases n <;> rfl
@[simp] theorem State.setPtr_loops (s : State) (n : RN) (v : Word) : (s.setPtr n v).loops = s.loops := by
  cases n <;> rfl
@[simp] theorem State.setPtr_shadow (s : State) (n : RN) (v : Word) : (s.setPtr n v).shadow = s.shadow := by
  cases n <;> rfl
@[simp] theorem State.setPtr_dvm (s : State) (n : RN) (v : Word) : (s.setPtr n v).dvm = s.dvm := by cases n <;> rfl
@[simp] theorem State.setPtr_ext (s : State) (n : RN) (v : Word) : (s.setPtr n v).ext = s.ext := by cases n <;> rfl
@[simp] theorem State.setPtr_svc (s : State) (n : RN) (v : Word) : (s.setPtr n v).svc = s.svc := by cases n <;> rfl
@[simp] theorem State.setPtr_dmem (s : State) (n : RN) (v : Word) : (s.setPtr n v).dmem = s.dmem := by cases n <;> rfl
@[simp] theorem State.setPtr_pmem (s : State) (n : RN) (v : Word) : (s.setPtr n v).pmem = s.pmem := by cases n <;> rfl
@[simp] theorem State.setPtr_pins (s : State) (n : RN) (v : Word) : (s.setPtr n v).pins = s.pins := by cases n <;> rfl
@[simp] theorem State.setPtr_out (s : State) (n : RN) (v : Word) : (s.setPtr n v).out = s.out := by cases n <;> rfl
@[simp] theorem State.setPtr_chip (s : State) (n : RN) (v : Word) : (s.setPtr n v).chip = s.chip := by cases n <;> rfl
@[simp] theorem State.setPtr_freeCtr (s : State) (n : RN) (v : Word) : (s.setPtr n v).freeCtr = s.freeCtr := by
  cases n <;> rfl

/-! ### `State.bump` -/

@[simp] theorem State.bump_pc (s : State) (n : RN) (m : PostMod) : (s.bump n m).pc = s.pc := by cases n <;> rfl
@[simp] theorem State.bump_accs (s : State) (n : RN) (m : PostMod) : (s.bump n m).accs = s.accs := by cases n <;> rfl
@[simp] theorem State.bump_mul (s : State) (n : RN) (m : PostMod) : (s.bump n m).mul = s.mul := by cases n <;> rfl
@[simp] theorem State.bump_sv (s : State) (n : RN) (m : PostMod) : (s.bump n m).sv = s.sv := by cases n <;> rfl
@[simp] theorem State.bump_flags (s : State) (n : RN) (m : PostMod) : (s.bump n m).flags = s.flags := by cases n <;> rfl
@[simp] theorem State.bump_stat (s : State) (n : RN) (m : PostMod) : (s.bump n m).stat = s.stat := by cases n <;> rfl
@[simp] theorem State.bump_icr (s : State) (n : RN) (m : PostMod) : (s.bump n m).icr = s.icr := by cases n <;> rfl
@[simp] theorem State.bump_loops (s : State) (n : RN) (m : PostMod) : (s.bump n m).loops = s.loops := by cases n <;> rfl
@[simp] theorem State.bump_shadow (s : State) (n : RN) (m : PostMod) : (s.bump n m).shadow = s.shadow := by
  cases n <;> rfl
@[simp] theorem State.bump_dvm (s : State) (n : RN) (m : PostMod) : (s.bump n m).dvm = s.dvm := by cases n <;> rfl
@[simp] theorem State.bump_ext (s : State) (n : RN) (m : PostMod) : (s.bump n m).ext = s.ext := by cases n <;> rfl
@[simp] theorem State.bump_svc (s : State) (n : RN) (m : PostMod) : (s.bump n m).svc = s.svc := by cases n <;> rfl
@[simp] theorem State.bump_dmem (s : State) (n : RN) (m : PostMod) : (s.bump n m).dmem = s.dmem := by cases n <;> rfl
@[simp] theorem State.bump_pmem (s : State) (n : RN) (m : PostMod) : (s.bump n m).pmem = s.pmem := by cases n <;> rfl
@[simp] theorem State.bump_pins (s : State) (n : RN) (m : PostMod) : (s.bump n m).pins = s.pins := by cases n <;> rfl
@[simp] theorem State.bump_out (s : State) (n : RN) (m : PostMod) : (s.bump n m).out = s.out := by cases n <;> rfl
@[simp] theorem State.bump_chip (s : State) (n : RN) (m : PostMod) : (s.bump n m).chip = s.chip := by cases n <;> rfl
@[simp] theorem State.bump_freeCtr (s : State) (n : RN) (m : PostMod) : (s.bump n m).freeCtr = s.freeCtr := by
  cases n <;> rfl

/-! ### `State.afterRead` -/

@[simp] theorem State.afterRead_pc (s : State) (r : Reg) : (s.afterRead r).pc = s.pc := by
  unfold State.afterRead; split_ifs <;> rfl
@[simp] theorem State.afterRead_accs (s : State) (r : Reg) : (s.afterRead r).accs = s.accs := by
  unfold State.afterRead; split_ifs <;> rfl
@[simp] theorem State.afterRead_mul (s : State) (r : Reg) : (s.afterRead r).mul = s.mul := by
  unfold State.afterRead; split_ifs <;> rfl
@[simp] theorem State.afterRead_sv (s : State) (r : Reg) : (s.afterRead r).sv = s.sv := by
  unfold State.afterRead; split_ifs <;> rfl
@[simp] theorem State.afterRead_dau (s : State) (r : Reg) : (s.afterRead r).dau = s.dau := by
  unfold State.afterRead; split_ifs <;> rfl
@[simp] theorem State.afterRead_flags (s : State) (r : Reg) : (s.afterRead r).flags = s.flags := by
  unfold State.afterRead; split_ifs <;> rfl
@[simp] theorem State.afterRead_stat (s : State) (r : Reg) : (s.afterRead r).stat = s.stat := by
  unfold State.afterRead; split_ifs <;> rfl
@[simp] theorem State.afterRead_icr (s : State) (r : Reg) : (s.afterRead r).icr = s.icr := by
  unfold State.afterRead; split_ifs <;> rfl
@[simp] theorem State.afterRead_loops (s : State) (r : Reg) : (s.afterRead r).loops = s.loops := by
  unfold State.afterRead; split_ifs <;> rfl
@[simp] theorem State.afterRead_shadow (s : State) (r : Reg) : (s.afterRead r).shadow = s.shadow := by
  unfold State.afterRead; split_ifs <;> rfl
@[simp] theorem State.afterRead_dvm (s : State) (r : Reg) : (s.afterRead r).dvm = s.dvm := by
  unfold State.afterRead; split_ifs <;> rfl
@[simp] theorem State.afterRead_ext (s : State) (r : Reg) : (s.afterRead r).ext = s.ext := by
  unfold State.afterRead; split_ifs <;> rfl
@[simp] theorem State.afterRead_svc (s : State) (r : Reg) : (s.afterRead r).svc = s.svc := by
  unfold State.afterRead; split_ifs <;> rfl
@[simp] theorem State.afterRead_dmem (s : State) (r : Reg) : (s.afterRead r).dmem = s.dmem := by
  unfold State.afterRead; split_ifs <;> rfl
@[simp] theorem State.afterRead_pmem (s : State) (r : Reg) : (s.afterRead r).pmem = s.pmem := by
  unfold State.afterRead; split_ifs <;> rfl
@[simp] theorem State.afterRead_pins (s : State) (r : Reg) : (s.afterRead r).pins = s.pins := by
  unfold State.afterRead; split_ifs <;> rfl
@[simp] theorem State.afterRead_chip (s : State) (r : Reg) : (s.afterRead r).chip = s.chip := by
  unfold State.afterRead; split_ifs <;> rfl
@[simp] theorem State.afterRead_ack (s : State) (r : Reg) : (s.afterRead r).out.ack = s.out.ack := by
  unfold State.afterRead; split_ifs <;> rfl
@[simp] theorem State.afterRead_sft (s : State) (r : Reg) : (s.afterRead r).out.sft = s.out.sft := by
  unfold State.afterRead; split_ifs <;> rfl

/-! ### `State.setAccFlags` -/

@[simp] theorem State.setAccFlags_pc (s : State) (i : AB) (x : Acc) : (s.setAccFlags i x).pc = s.pc := rfl
@[simp] theorem State.setAccFlags_mul (s : State) (i : AB) (x : Acc) : (s.setAccFlags i x).mul = s.mul := rfl
@[simp] theorem State.setAccFlags_sv (s : State) (i : AB) (x : Acc) : (s.setAccFlags i x).sv = s.sv := rfl
@[simp] theorem State.setAccFlags_dau (s : State) (i : AB) (x : Acc) : (s.setAccFlags i x).dau = s.dau := rfl
@[simp] theorem State.setAccFlags_stat (s : State) (i : AB) (x : Acc) : (s.setAccFlags i x).stat = s.stat := rfl
@[simp] theorem State.setAccFlags_icr (s : State) (i : AB) (x : Acc) : (s.setAccFlags i x).icr = s.icr := rfl
@[simp] theorem State.setAccFlags_loops (s : State) (i : AB) (x : Acc) : (s.setAccFlags i x).loops = s.loops := rfl
@[simp] theorem State.setAccFlags_shadow (s : State) (i : AB) (x : Acc) : (s.setAccFlags i x).shadow = s.shadow := rfl
@[simp] theorem State.setAccFlags_dvm (s : State) (i : AB) (x : Acc) : (s.setAccFlags i x).dvm = s.dvm := rfl
@[simp] theorem State.setAccFlags_ext (s : State) (i : AB) (x : Acc) : (s.setAccFlags i x).ext = s.ext := rfl
@[simp] theorem State.setAccFlags_svc (s : State) (i : AB) (x : Acc) : (s.setAccFlags i x).svc = s.svc := rfl
@[simp] theorem State.setAccFlags_dmem (s : State) (i : AB) (x : Acc) : (s.setAccFlags i x).dmem = s.dmem := rfl
@[simp] theorem State.setAccFlags_pmem (s : State) (i : AB) (x : Acc) : (s.setAccFlags i x).pmem = s.pmem := rfl
@[simp] theorem State.setAccFlags_pins (s : State) (i : AB) (x : Acc) : (s.setAccFlags i x).pins = s.pins := rfl
@[simp] theorem State.setAccFlags_out (s : State) (i : AB) (x : Acc) : (s.setAccFlags i x).out = s.out := rfl
@[simp] theorem State.setAccFlags_chip (s : State) (i : AB) (x : Acc) : (s.setAccFlags i x).chip = s.chip := rfl
@[simp] theorem State.setAccFlags_freeCtr (s : State) (i : AB) (x : Acc) : (s.setAccFlags i x).freeCtr = s.freeCtr := rfl

/-! ### `State.movReg` -/

@[simp] theorem State.movReg_icr (s : State) (r : Reg) (v : Word) : (s.movReg r v).icr = s.icr := by
  unfold State.movReg; dsimp only; split <;> simp
@[simp] theorem State.movReg_shadow (s : State) (r : Reg) (v : Word) : (s.movReg r v).shadow = s.shadow := by
  unfold State.movReg; dsimp only; split <;> simp
@[simp] theorem State.movReg_dvm (s : State) (r : Reg) (v : Word) : (s.movReg r v).dvm = s.dvm := by
  unfold State.movReg; dsimp only; split <;> simp
@[simp] theorem State.movReg_svc (s : State) (r : Reg) (v : Word) : (s.movReg r v).svc = s.svc := by
  unfold State.movReg; dsimp only; split <;> simp
@[simp] theorem State.movReg_dmem (s : State) (r : Reg) (v : Word) : (s.movReg r v).dmem = s.dmem := by
  unfold State.movReg; dsimp only; split <;> simp
@[simp] theorem State.movReg_pmem (s : State) (r : Reg) (v : Word) : (s.movReg r v).pmem = s.pmem := by
  unfold State.movReg; dsimp only; split <;> simp
@[simp] theorem State.movReg_pins (s : State) (r : Reg) (v : Word) : (s.movReg r v).pins = s.pins := by
  unfold State.movReg; dsimp only; split <;> simp
@[simp] theorem State.movReg_chip (s : State) (r : Reg) (v : Word) : (s.movReg r v).chip = s.chip := by
  unfold State.movReg; dsimp only; split <;> simp
@[simp] theorem State.movReg_freeCtr (s : State) (r : Reg) (v : Word) : (s.movReg r v).freeCtr = s.freeCtr := by
  unfold State.movReg; dsimp only; split <;> simp
@[simp] theorem State.movReg_ack (s : State) (r : Reg) (v : Word) : (s.movReg r v).out.ack = s.out.ack := by
  unfold State.movReg; dsimp only; split <;> simp
@[simp] theorem State.movReg_sft (s : State) (r : Reg) (v : Word) : (s.movReg r v).out.sft = s.out.sft := by
  unfold State.movReg; dsimp only; split <;> simp

/-! ### `State.setRegPart` -/

@[simp] theorem State.setRegPart_icr (s : State) (r : Reg) (v : Word) : (s.setRegPart r v).icr = s.icr := by
  unfold State.setRegPart; split <;> simp
@[simp] theorem State.setRegPart_shadow (s : State) (r : Reg) (v : Word) : (s.setRegPart r v).shadow = s.shadow := by
  unfold State.setRegPart; split <;> simp
@[simp] theorem State.setRegPart_dvm (s : State) (r : Reg) (v : Word) : (s.setRegPart r v).dvm = s.dvm := by
  unfold State.setRegPart; split <;> simp
@[simp] theorem State.setRegPart_svc (s : State) (r : Reg) (v : Word) : (s.setRegPart r v).svc = s.svc := by
  unfold State.setRegPart; split <;> simp
@[simp] theorem State.setRegPart_dmem (s : State) (r : Reg) (v : Word) : (s.setRegPart r v).dmem = s.dmem := by
  unfold State.setRegPart; split <;> simp
@[simp] theorem State.setRegPart_pmem (s : State) (r : Reg) (v : Word) : (s.setRegPart r v).pmem = s.pmem := by
  unfold State.setRegPart; split <;> simp
@[simp] theorem State.setRegPart_pins (s : State) (r : Reg) (v : Word) : (s.setRegPart r v).pins = s.pins := by
  unfold State.setRegPart; split <;> simp
@[simp] theorem State.setRegPart_chip (s : State) (r : Reg) (v : Word) : (s.setRegPart r v).chip = s.chip := by
  unfold State.setRegPart; split <;> simp
@[simp] theorem State.setRegPart_freeCtr (s : State) (r : Reg) (v : Word) : (s.setRegPart r v).freeCtr = s.freeCtr := by
  unfold State.setRegPart; split <;> simp
@[simp] theorem State.setRegPart_ack (s : State) (r : Reg) (v : Word) : (s.setRegPart r v).out.ack = s.out.ack := by
  unfold State.setRegPart; split <;> simp
@[simp] theorem State.setRegPart_sft (s : State) (r : Reg) (v : Word) : (s.setRegPart r v).out.sft = s.out.sft := by
  unfold State.setRegPart; split <;> simp

/-! ### `State.popLevel` -/

@[simp] theorem State.popLevel_pc (s : State) : (s.popLevel).pc = s.pc := rfl
@[simp] theorem State.popLevel_accs (s : State) : (s.popLevel).accs = s.accs := rfl
@[simp] theorem State.popLevel_mul (s : State) : (s.popLevel).mul = s.mul := rfl
@[simp] theorem State.popLevel_sv (s : State) : (s.popLevel).sv = s.sv := rfl
@[simp] theorem State.popLevel_dau (s : State) : (s.popLevel).dau = s.dau := rfl
@[simp] theorem State.popLevel_flags (s : State) : (s.popLevel).flags = s.flags := rfl
@[simp] theorem State.popLevel_stat (s : State) : (s.popLevel).stat = s.stat := rfl
@[simp] theorem State.popLevel_shadow (s : State) : (s.popLevel).shadow = s.shadow := rfl
@[simp] theorem State.popLevel_dvm (s : State) : (s.popLevel).dvm = s.dvm := rfl
@[simp] theorem State.popLevel_ext (s : State) : (s.popLevel).ext = s.ext := rfl
@[simp] theorem State.popLevel_svc (s : State) : (s.popLevel).svc = s.svc := rfl
@[simp] theorem State.popLevel_dmem (s : State) : (s.popLevel).dmem = s.dmem := rfl
@[simp] theorem State.popLevel_pmem (s : State) : (s.popLevel).pmem = s.pmem := rfl
@[simp] theorem State.popLevel_pins (s : State) : (s.popLevel).pins = s.pins := rfl
@[simp] theorem State.popLevel_out (s : State) : (s.popLevel).out = s.out := rfl
@[simp] theorem State.popLevel_chip (s : State) : (s.popLevel).chip = s.chip := rfl
@[simp] theorem State.popLevel_freeCtr (s : State) : (s.popLevel).freeCtr = s.freeCtr := rfl

/-! ### `State.contextStore` -/

@[simp] theorem State.contextStore_pc (s : State) : (s.contextStore).pc = s.pc := rfl
@[simp] theorem State.contextStore_mul (s : State) : (s.contextStore).mul = s.mul := rfl
@[simp] theorem State.contextStore_sv (s : State) : (s.contextStore).sv = s.sv := rfl
@[simp] theorem State.contextStore_dau (s : State) : (s.contextStore).dau = s.dau := rfl
@[simp] theorem State.contextStore_icr (s : State) : (s.contextStore).icr = s.icr := rfl
@[simp] theorem State.contextStore_loops (s : State) : (s.contextStore).loops = s.loops := rfl
@[simp] theorem State.contextStore_dvm (s : State) : (s.contextStore).dvm = s.dvm := rfl
@[simp] theorem State.contextStore_ext (s : State) : (s.contextStore).ext = s.ext := rfl
@[simp] theorem State.contextStore_svc (s : State) : (s.contextStore).svc = s.svc := rfl
@[simp] theorem State.contextStore_dmem (s : State) : (s.contextStore).dmem = s.dmem := rfl
@[simp] theorem State.contextStore_pmem (s : State) : (s.contextStore).pmem = s.pmem := rfl
@[simp] theorem State.contextStore_pins (s : State) : (s.contextStore).pins = s.pins := rfl
@[simp] theorem State.contextStore_out (s : State) : (s.contextStore).out = s.out := rfl
@[simp] theorem State.contextStore_chip (s : State) : (s.contextStore).chip = s.chip := rfl
@[simp] theorem State.contextStore_freeCtr (s : State) : (s.contextStore).freeCtr = s.freeCtr := rfl

/-! ### `State.contextRestore` -/

@[simp] theorem State.contextRestore_pc (s : State) : (s.contextRestore).pc = s.pc := rfl
@[simp] theorem State.contextRestore_mul (s : State) : (s.contextRestore).mul = s.mul := rfl
@[simp] theorem State.contextRestore_sv (s : State) : (s.contextRestore).sv = s.sv := rfl
@[simp] theorem State.contextRestore_dau (s : State) : (s.contextRestore).dau = s.dau := rfl
@[simp] theorem State.contextRestore_icr (s : State) : (s.contextRestore).icr = s.icr := rfl
@[simp] theorem State.contextRestore_loops (s : State) : (s.contextRestore).loops = s.loops := rfl
@[simp] theorem State.contextRestore_dvm (s : State) : (s.contextRestore).dvm = s.dvm := rfl
@[simp] theorem State.contextRestore_ext (s : State) : (s.contextRestore).ext = s.ext := rfl
@[simp] theorem State.contextRestore_svc (s : State) : (s.contextRestore).svc = s.svc := rfl
@[simp] theorem State.contextRestore_dmem (s : State) : (s.contextRestore).dmem = s.dmem := rfl
@[simp] theorem State.contextRestore_pmem (s : State) : (s.contextRestore).pmem = s.pmem := rfl
@[simp] theorem State.contextRestore_pins (s : State) : (s.contextRestore).pins = s.pins := rfl
@[simp] theorem State.contextRestore_out (s : State) : (s.contextRestore).out = s.out := rfl
@[simp] theorem State.contextRestore_chip (s : State) : (s.contextRestore).chip = s.chip := rfl
@[simp] theorem State.contextRestore_freeCtr (s : State) : (s.contextRestore).freeCtr = s.freeCtr := rfl

/-! ### `State.returnTo` -/

@[simp] theorem State.returnTo_accs (s : State) (t : Word) : (s.returnTo t).accs = s.accs := by
  unfold State.returnTo; split <;> rfl
@[simp] theorem State.returnTo_mul (s : State) (t : Word) : (s.returnTo t).mul = s.mul := by
  unfold State.returnTo; split <;> rfl
@[simp] theorem State.returnTo_sv (s : State) (t : Word) : (s.returnTo t).sv = s.sv := by
  unfold State.returnTo; split <;> rfl
@[simp] theorem State.returnTo_dau (s : State) (t : Word) : (s.returnTo t).dau = s.dau := by
  unfold State.returnTo; split <;> rfl
@[simp] theorem State.returnTo_flags (s : State) (t : Word) : (s.returnTo t).flags = s.flags := by
  unfold State.returnTo; split <;> rfl
@[simp] theorem State.returnTo_stat (s : State) (t : Word) : (s.returnTo t).stat = s.stat := by
  unfold State.returnTo; split <;> rfl
@[simp] theorem State.returnTo_icr (s : State) (t : Word) : (s.returnTo t).icr = s.icr := by
  unfold State.returnTo; split <;> rfl
@[simp] theorem State.returnTo_shadow (s : State) (t : Word) : (s.returnTo t).shadow = s.shadow := by
  unfold State.returnTo; split <;> rfl
@[simp] theorem State.returnTo_dvm (s : State) (t : Word) : (s.returnTo t).dvm = s.dvm := by
  unfold State.returnTo; split <;> rfl
@[simp] theorem State.returnTo_ext (s : State) (t : Word) : (s.returnTo t).ext = s.ext := by
  unfold State.returnTo; split <;> rfl
@[simp] theorem State.returnTo_svc (s : State) (t : Word) : (s.returnTo t).svc = s.svc := by
  unfold State.returnTo; split <;> rfl
@[simp] theorem State.returnTo_dmem (s : State) (t : Word) : (s.returnTo t).dmem = s.dmem := by
  unfold State.returnTo; split <;> rfl
@[simp] theorem State.returnTo_pmem (s : State) (t : Word) : (s.returnTo t).pmem = s.pmem := by
  unfold State.returnTo; split <;> rfl
@[simp] theorem State.returnTo_pins (s : State) (t : Word) : (s.returnTo t).pins = s.pins := by
  unfold State.returnTo; split <;> rfl
@[simp] theorem State.returnTo_out (s : State) (t : Word) : (s.returnTo t).out = s.out := by
  unfold State.returnTo; split <;> rfl
@[simp] theorem State.returnTo_chip (s : State) (t : Word) : (s.returnTo t).chip = s.chip := by
  unfold State.returnTo; split <;> rfl
@[simp] theorem State.returnTo_freeCtr (s : State) (t : Word) : (s.returnTo t).freeCtr = s.freeCtr := by
  unfold State.returnTo; split <;> rfl

/-! ### `State.endService` -/

@[simp] theorem State.endService_pc (s : State) : (s.endService).pc = s.pc := rfl
@[simp] theorem State.endService_accs (s : State) : (s.endService).accs = s.accs := rfl
@[simp] theorem State.endService_mul (s : State) : (s.endService).mul = s.mul := rfl
@[simp] theorem State.endService_sv (s : State) : (s.endService).sv = s.sv := rfl
@[simp] theorem State.endService_dau (s : State) : (s.endService).dau = s.dau := rfl
@[simp] theorem State.endService_flags (s : State) : (s.endService).flags = s.flags := rfl
@[simp] theorem State.endService_icr (s : State) : (s.endService).icr = s.icr := rfl
@[simp] theorem State.endService_loops (s : State) : (s.endService).loops = s.loops := rfl
@[simp] theorem State.endService_shadow (s : State) : (s.endService).shadow = s.shadow := rfl
@[simp] theorem State.endService_dvm (s : State) : (s.endService).dvm = s.dvm := rfl
@[simp] theorem State.endService_ext (s : State) : (s.endService).ext = s.ext := rfl
@[simp] theorem State.endService_dmem (s : State) : (s.endService).dmem = s.dmem := rfl
@[simp] theorem State.endService_pmem (s : State) : (s.endService).pmem = s.pmem := rfl
@[simp] theorem State.endService_pins (s : State) : (s.endService).pins = s.pins := rfl
@[simp] theorem State.endService_out (s : State) : (s.endService).out = s.out := rfl
@[simp] theorem State.endService_chip (s : State) : (s.endService).chip = s.chip := rfl
@[simp] theorem State.endService_freeCtr (s : State) : (s.endService).freeCtr = s.freeCtr := rfl

/-! ### `State.begin` -/

@[simp] theorem State.begin_accs (s : State) (n : Nat) : (s.begin n).accs = s.accs := rfl
@[simp] theorem State.begin_mul (s : State) (n : Nat) : (s.begin n).mul = s.mul := rfl
@[simp] theorem State.begin_sv (s : State) (n : Nat) : (s.begin n).sv = s.sv := rfl
@[simp] theorem State.begin_dau (s : State) (n : Nat) : (s.begin n).dau = s.dau := rfl
@[simp] theorem State.begin_flags (s : State) (n : Nat) : (s.begin n).flags = s.flags := rfl
@[simp] theorem State.begin_stat (s : State) (n : Nat) : (s.begin n).stat = s.stat := rfl
@[simp] theorem State.begin_icr (s : State) (n : Nat) : (s.begin n).icr = s.icr := rfl
@[simp] theorem State.begin_loops (s : State) (n : Nat) : (s.begin n).loops = s.loops := rfl
@[simp] theorem State.begin_shadow (s : State) (n : Nat) : (s.begin n).shadow = s.shadow := rfl
@[simp] theorem State.begin_dvm (s : State) (n : Nat) : (s.begin n).dvm = s.dvm := rfl
@[simp] theorem State.begin_ext (s : State) (n : Nat) : (s.begin n).ext = s.ext := rfl
@[simp] theorem State.begin_dmem (s : State) (n : Nat) : (s.begin n).dmem = s.dmem := rfl
@[simp] theorem State.begin_pmem (s : State) (n : Nat) : (s.begin n).pmem = s.pmem := rfl
@[simp] theorem State.begin_pins (s : State) (n : Nat) : (s.begin n).pins = s.pins := rfl
@[simp] theorem State.begin_chip (s : State) (n : Nat) : (s.begin n).chip = s.chip := rfl
@[simp] theorem State.begin_freeCtr (s : State) (n : Nat) : (s.begin n).freeCtr = s.freeCtr := rfl

/-! ### `State.endRepetition` -/

@[simp] theorem State.endRepetition_accs (s : State) (b : Word) : (s.endRepetition b).accs = s.accs := by
  unfold State.endRepetition; split <;> rfl
@[simp] theorem State.endRepetition_mul (s : State) (b : Word) : (s.endRepetition b).mul = s.mul := by
  unfold State.endRepetition; split <;> rfl
@[simp] theorem State.endRepetition_sv (s : State) (b : Word) : (s.endRepetition b).sv = s.sv := by
  unfold State.endRepetition; split <;> rfl
@[simp] theorem State.endRepetition_dau (s : State) (b : Word) : (s.endRepetition b).dau = s.dau := by
  unfold State.endRepetition; split <;> rfl
@[simp] theorem State.endRepetition_flags (s : State) (b : Word) : (s.endRepetition b).flags = s.flags := by
  unfold State.endRepetition; split <;> rfl
@[simp] theorem State.endRepetition_stat (s : State) (b : Word) : (s.endRepetition b).stat = s.stat := by
  unfold State.endRepetition; split <;> rfl
@[simp] theorem State.endRepetition_icr (s : State) (b : Word) : (s.endRepetition b).icr = s.icr := by
  unfold State.endRepetition; split <;> rfl
@[simp] theorem State.endRepetition_shadow (s : State) (b : Word) : (s.endRepetition b).shadow = s.shadow := by
  unfold State.endRepetition; split <;> rfl
@[simp] theorem State.endRepetition_dvm (s : State) (b : Word) : (s.endRepetition b).dvm = s.dvm := by
  unfold State.endRepetition; split <;> rfl
@[simp] theorem State.endRepetition_ext (s : State) (b : Word) : (s.endRepetition b).ext = s.ext := by
  unfold State.endRepetition; split <;> rfl
@[simp] theorem State.endRepetition_svc (s : State) (b : Word) : (s.endRepetition b).svc = s.svc := by
  unfold State.endRepetition; split <;> rfl
@[simp] theorem State.endRepetition_dmem (s : State) (b : Word) : (s.endRepetition b).dmem = s.dmem := by
  unfold State.endRepetition; split <;> rfl
@[simp] theorem State.endRepetition_pmem (s : State) (b : Word) : (s.endRepetition b).pmem = s.pmem := by
  unfold State.endRepetition; split <;> rfl
@[simp] theorem State.endRepetition_pins (s : State) (b : Word) : (s.endRepetition b).pins = s.pins := by
  unfold State.endRepetition; split <;> rfl
@[simp] theorem State.endRepetition_out (s : State) (b : Word) : (s.endRepetition b).out = s.out := by
  unfold State.endRepetition; split <;> rfl
@[simp] theorem State.endRepetition_chip (s : State) (b : Word) : (s.endRepetition b).chip = s.chip := by
  unfold State.endRepetition; split <;> rfl
@[simp] theorem State.endRepetition_freeCtr (s : State) (b : Word) : (s.endRepetition b).freeCtr = s.freeCtr := by
  unfold State.endRepetition; split <;> rfl

/-! ### `State.endSlot` -/

@[simp] theorem State.endSlot_accs (s : State) (d : DelayedReturn) (c : Nat) : (s.endSlot d c).accs = s.accs := by
  unfold State.endSlot State.returnTo; split <;> (try split) <;> rfl
@[simp] theorem State.endSlot_mul (s : State) (d : DelayedReturn) (c : Nat) : (s.endSlot d c).mul = s.mul := by
  unfold State.endSlot State.returnTo; split <;> (try split) <;> rfl
@[simp] theorem State.endSlot_sv (s : State) (d : DelayedReturn) (c : Nat) : (s.endSlot d c).sv = s.sv := by
  unfold State.endSlot State.returnTo; split <;> (try split) <;> rfl
@[simp] theorem State.endSlot_dau (s : State) (d : DelayedReturn) (c : Nat) : (s.endSlot d c).dau = s.dau := by
  unfold State.endSlot State.returnTo; split <;> (try split) <;> rfl
@[simp] theorem State.endSlot_flags (s : State) (d : DelayedReturn) (c : Nat) : (s.endSlot d c).flags = s.flags := by
  unfold State.endSlot State.returnTo; split <;> (try split) <;> rfl
@[simp] theorem State.endSlot_stat (s : State) (d : DelayedReturn) (c : Nat) : (s.endSlot d c).stat = s.stat := by
  unfold State.endSlot State.returnTo; split <;> (try split) <;> rfl
@[simp] theorem State.endSlot_icr (s : State) (d : DelayedReturn) (c : Nat) : (s.endSlot d c).icr = s.icr := by
  unfold State.endSlot State.returnTo; split <;> (try split) <;> rfl
@[simp] theorem State.endSlot_shadow (s : State) (d : DelayedReturn) (c : Nat) : (s.endSlot d c).shadow = s.shadow := by
  unfold State.endSlot State.returnTo; split <;> (try split) <;> rfl
@[simp] theorem State.endSlot_dvm (s : State) (d : DelayedReturn) (c : Nat) : (s.endSlot d c).dvm = s.dvm := by
  unfold State.endSlot State.returnTo; split <;> (try split) <;> rfl
@[simp] theorem State.endSlot_ext (s : State) (d : DelayedReturn) (c : Nat) : (s.endSlot d c).ext = s.ext := by
  unfold State.endSlot State.returnTo; split <;> (try split) <;> rfl
@[simp] theorem State.endSlot_dmem (s : State) (d : DelayedReturn) (c : Nat) : (s.endSlot d c).dmem = s.dmem := by
  unfold State.endSlot State.returnTo; split <;> (try split) <;> rfl
@[simp] theorem State.endSlot_pmem (s : State) (d : DelayedReturn) (c : Nat) : (s.endSlot d c).pmem = s.pmem := by
  unfold State.endSlot State.returnTo; split <;> (try split) <;> rfl
@[simp] theorem State.endSlot_pins (s : State) (d : DelayedReturn) (c : Nat) : (s.endSlot d c).pins = s.pins := by
  unfold State.endSlot State.returnTo; split <;> (try split) <;> rfl
@[simp] theorem State.endSlot_out (s : State) (d : DelayedReturn) (c : Nat) : (s.endSlot d c).out = s.out := by
  unfold State.endSlot State.returnTo; split <;> (try split) <;> rfl
@[simp] theorem State.endSlot_chip (s : State) (d : DelayedReturn) (c : Nat) : (s.endSlot d c).chip = s.chip := by
  unfold State.endSlot State.returnTo; split <;> (try split) <;> rfl
@[simp] theorem State.endSlot_freeCtr (s : State) (d : DelayedReturn) (c : Nat) : (s.endSlot d c).freeCtr = s.freeCtr := by
  unfold State.endSlot State.returnTo; split <;> (try split) <;> rfl

/-! ### `State.endPass` -/

@[simp] theorem State.endPass_accs (s : State) (n : Word) : (s.endPass n).accs = s.accs := by
  unfold State.endPass; split <;> (try split) <;> rfl
@[simp] theorem State.endPass_mul (s : State) (n : Word) : (s.endPass n).mul = s.mul := by
  unfold State.endPass; split <;> (try split) <;> rfl
@[simp] theorem State.endPass_sv (s : State) (n : Word) : (s.endPass n).sv = s.sv := by
  unfold State.endPass; split <;> (try split) <;> rfl
@[simp] theorem State.endPass_dau (s : State) (n : Word) : (s.endPass n).dau = s.dau := by
  unfold State.endPass; split <;> (try split) <;> rfl
@[simp] theorem State.endPass_flags (s : State) (n : Word) : (s.endPass n).flags = s.flags := by
  unfold State.endPass; split <;> (try split) <;> rfl
@[simp] theorem State.endPass_stat (s : State) (n : Word) : (s.endPass n).stat = s.stat := by
  unfold State.endPass; split <;> (try split) <;> rfl
@[simp] theorem State.endPass_shadow (s : State) (n : Word) : (s.endPass n).shadow = s.shadow := by
  unfold State.endPass; split <;> (try split) <;> rfl
@[simp] theorem State.endPass_dvm (s : State) (n : Word) : (s.endPass n).dvm = s.dvm := by
  unfold State.endPass; split <;> (try split) <;> rfl
@[simp] theorem State.endPass_ext (s : State) (n : Word) : (s.endPass n).ext = s.ext := by
  unfold State.endPass; split <;> (try split) <;> rfl
@[simp] theorem State.endPass_svc (s : State) (n : Word) : (s.endPass n).svc = s.svc := by
  unfold State.endPass; split <;> (try split) <;> rfl
@[simp] theorem State.endPass_dmem (s : State) (n : Word) : (s.endPass n).dmem = s.dmem := by
  unfold State.endPass; split <;> (try split) <;> rfl
@[simp] theorem State.endPass_pmem (s : State) (n : Word) : (s.endPass n).pmem = s.pmem := by
  unfold State.endPass; split <;> (try split) <;> rfl
@[simp] theorem State.endPass_pins (s : State) (n : Word) : (s.endPass n).pins = s.pins := by
  unfold State.endPass; split <;> (try split) <;> rfl
@[simp] theorem State.endPass_out (s : State) (n : Word) : (s.endPass n).out = s.out := by
  unfold State.endPass; split <;> (try split) <;> rfl
@[simp] theorem State.endPass_chip (s : State) (n : Word) : (s.endPass n).chip = s.chip := by
  unfold State.endPass; split <;> (try split) <;> rfl
@[simp] theorem State.endPass_freeCtr (s : State) (n : Word) : (s.endPass n).freeCtr = s.freeCtr := by
  unfold State.endPass; split <;> (try split) <;> rfl

/-! ### `State.control` -/

@[simp] theorem State.control_accs (t s : State) (tr : Traits) (a : Word) : (t.control s tr a).accs = t.accs := by
  unfold State.control; split <;> (try split) <;> simp
@[simp] theorem State.control_mul (t s : State) (tr : Traits) (a : Word) : (t.control s tr a).mul = t.mul := by
  unfold State.control; split <;> (try split) <;> simp
@[simp] theorem State.control_sv (t s : State) (tr : Traits) (a : Word) : (t.control s tr a).sv = t.sv := by
  unfold State.control; split <;> (try split) <;> simp
@[simp] theorem State.control_dau (t s : State) (tr : Traits) (a : Word) : (t.control s tr a).dau = t.dau := by
  unfold State.control; split <;> (try split) <;> simp
@[simp] theorem State.control_flags (t s : State) (tr : Traits) (a : Word) : (t.control s tr a).flags = t.flags := by
  unfold State.control; split <;> (try split) <;> simp
@[simp] theorem State.control_stat (t s : State) (tr : Traits) (a : Word) : (t.control s tr a).stat = t.stat := by
  unfold State.control; split <;> (try split) <;> simp
@[simp] theorem State.control_shadow (t s : State) (tr : Traits) (a : Word) : (t.control s tr a).shadow = t.shadow := by
  unfold State.control; split <;> (try split) <;> simp
@[simp] theorem State.control_dvm (t s : State) (tr : Traits) (a : Word) : (t.control s tr a).dvm = t.dvm := by
  unfold State.control; split <;> (try split) <;> simp
@[simp] theorem State.control_ext (t s : State) (tr : Traits) (a : Word) : (t.control s tr a).ext = t.ext := by
  unfold State.control; split <;> (try split) <;> simp
@[simp] theorem State.control_dmem (t s : State) (tr : Traits) (a : Word) : (t.control s tr a).dmem = t.dmem := by
  unfold State.control; split <;> (try split) <;> simp
@[simp] theorem State.control_pmem (t s : State) (tr : Traits) (a : Word) : (t.control s tr a).pmem = t.pmem := by
  unfold State.control; split <;> (try split) <;> simp
@[simp] theorem State.control_pins (t s : State) (tr : Traits) (a : Word) : (t.control s tr a).pins = t.pins := by
  unfold State.control; split <;> (try split) <;> simp
@[simp] theorem State.control_out (t s : State) (tr : Traits) (a : Word) : (t.control s tr a).out = t.out := by
  unfold State.control; split <;> (try split) <;> simp
@[simp] theorem State.control_chip (t s : State) (tr : Traits) (a : Word) : (t.control s tr a).chip = t.chip := by
  unfold State.control; split <;> (try split) <;> simp
@[simp] theorem State.control_freeCtr (t s : State) (tr : Traits) (a : Word) : (t.control s tr a).freeCtr = t.freeCtr := by
  unfold State.control; split <;> (try split) <;> simp

/-! ### `State.record` -/

@[simp] theorem State.record_pc (t s : State) (tr : Traits) : (t.record s tr).pc = t.pc := rfl
@[simp] theorem State.record_accs (t s : State) (tr : Traits) : (t.record s tr).accs = t.accs := rfl
@[simp] theorem State.record_mul (t s : State) (tr : Traits) : (t.record s tr).mul = t.mul := rfl
@[simp] theorem State.record_sv (t s : State) (tr : Traits) : (t.record s tr).sv = t.sv := rfl
@[simp] theorem State.record_dau (t s : State) (tr : Traits) : (t.record s tr).dau = t.dau := rfl
@[simp] theorem State.record_flags (t s : State) (tr : Traits) : (t.record s tr).flags = t.flags := rfl
@[simp] theorem State.record_stat (t s : State) (tr : Traits) : (t.record s tr).stat = t.stat := rfl
@[simp] theorem State.record_icr (t s : State) (tr : Traits) : (t.record s tr).icr = t.icr := rfl
@[simp] theorem State.record_loops (t s : State) (tr : Traits) : (t.record s tr).loops = t.loops := rfl
@[simp] theorem State.record_shadow (t s : State) (tr : Traits) : (t.record s tr).shadow = t.shadow := rfl
@[simp] theorem State.record_dvm (t s : State) (tr : Traits) : (t.record s tr).dvm = t.dvm := rfl
@[simp] theorem State.record_ext (t s : State) (tr : Traits) : (t.record s tr).ext = t.ext := rfl
@[simp] theorem State.record_dmem (t s : State) (tr : Traits) : (t.record s tr).dmem = t.dmem := rfl
@[simp] theorem State.record_pmem (t s : State) (tr : Traits) : (t.record s tr).pmem = t.pmem := rfl
@[simp] theorem State.record_pins (t s : State) (tr : Traits) : (t.record s tr).pins = t.pins := rfl
@[simp] theorem State.record_out (t s : State) (tr : Traits) : (t.record s tr).out = t.out := rfl
@[simp] theorem State.record_chip (t s : State) (tr : Traits) : (t.record s tr).chip = t.chip := rfl
@[simp] theorem State.record_freeCtr (t s : State) (tr : Traits) : (t.record s tr).freeCtr = t.freeCtr := rfl

/-! ### `State.finish` -/

@[simp] theorem State.finish_accs (t s : State) (tr : Traits) : (t.finish s tr).accs = t.accs := by simp [State.finish]
@[simp] theorem State.finish_mul (t s : State) (tr : Traits) : (t.finish s tr).mul = t.mul := by simp [State.finish]
@[simp] theorem State.finish_sv (t s : State) (tr : Traits) : (t.finish s tr).sv = t.sv := by simp [State.finish]
@[simp] theorem State.finish_dau (t s : State) (tr : Traits) : (t.finish s tr).dau = t.dau := by simp [State.finish]
@[simp] theorem State.finish_flags (t s : State) (tr : Traits) : (t.finish s tr).flags = t.flags := by
  simp [State.finish]
@[simp] theorem State.finish_stat (t s : State) (tr : Traits) : (t.finish s tr).stat = t.stat := by simp [State.finish]
@[simp] theorem State.finish_shadow (t s : State) (tr : Traits) : (t.finish s tr).shadow = t.shadow := by
  simp [State.finish]
@[simp] theorem State.finish_dvm (t s : State) (tr : Traits) : (t.finish s tr).dvm = t.dvm := by simp [State.finish]
@[simp] theorem State.finish_ext (t s : State) (tr : Traits) : (t.finish s tr).ext = t.ext := by simp [State.finish]
@[simp] theorem State.finish_dmem (t s : State) (tr : Traits) : (t.finish s tr).dmem = t.dmem := by simp [State.finish]
@[simp] theorem State.finish_pmem (t s : State) (tr : Traits) : (t.finish s tr).pmem = t.pmem := by simp [State.finish]
@[simp] theorem State.finish_pins (t s : State) (tr : Traits) : (t.finish s tr).pins = t.pins := by simp [State.finish]
@[simp] theorem State.finish_out (t s : State) (tr : Traits) : (t.finish s tr).out = t.out := by simp [State.finish]
@[simp] theorem State.finish_chip (t s : State) (tr : Traits) : (t.finish s tr).chip = t.chip := by simp [State.finish]
@[simp] theorem State.finish_freeCtr (t s : State) (tr : Traits) : (t.finish s tr).freeCtr = t.freeCtr := by
  simp [State.finish]

/-! ### `State.resetEvent` -/

@[simp] theorem State.resetEvent_accs (s : State) : (s.resetEvent).accs = s.accs := rfl
@[simp] theorem State.resetEvent_mul (s : State) : (s.resetEvent).mul = s.mul := rfl
@[simp] theorem State.resetEvent_sv (s : State) : (s.resetEvent).sv = s.sv := rfl
@[simp] theorem State.resetEvent_dau (s : State) : (s.resetEvent).dau = s.dau := rfl
@[simp] theorem State.resetEvent_shadow (s : State) : (s.resetEvent).shadow = s.shadow := rfl
@[simp] theorem State.resetEvent_dvm (s : State) : (s.resetEvent).dvm = s.dvm := rfl
@[simp] theorem State.resetEvent_ext (s : State) : (s.resetEvent).ext = s.ext := rfl
@[simp] theorem State.resetEvent_dmem (s : State) : (s.resetEvent).dmem = s.dmem := rfl
@[simp] theorem State.resetEvent_pmem (s : State) : (s.resetEvent).pmem = s.pmem := rfl
@[simp] theorem State.resetEvent_pins (s : State) : (s.resetEvent).pins = s.pins := rfl
@[simp] theorem State.resetEvent_chip (s : State) : (s.resetEvent).chip = s.chip := rfl
@[simp] theorem State.resetEvent_freeCtr (s : State) : (s.resetEvent).freeCtr = s.freeCtr := rfl

/-! ### `State.placeWord` -/

@[simp] theorem State.placeWord_pc (s : State) (w v : Word) : (s.placeWord w v).pc = s.pc := rfl
@[simp] theorem State.placeWord_accs (s : State) (w v : Word) : (s.placeWord w v).accs = s.accs := rfl
@[simp] theorem State.placeWord_mul (s : State) (w v : Word) : (s.placeWord w v).mul = s.mul := rfl
@[simp] theorem State.placeWord_sv (s : State) (w v : Word) : (s.placeWord w v).sv = s.sv := rfl
@[simp] theorem State.placeWord_dau (s : State) (w v : Word) : (s.placeWord w v).dau = s.dau := rfl
@[simp] theorem State.placeWord_flags (s : State) (w v : Word) : (s.placeWord w v).flags = s.flags := rfl
@[simp] theorem State.placeWord_stat (s : State) (w v : Word) : (s.placeWord w v).stat = s.stat := rfl
@[simp] theorem State.placeWord_icr (s : State) (w v : Word) : (s.placeWord w v).icr = s.icr := rfl
@[simp] theorem State.placeWord_loops (s : State) (w v : Word) : (s.placeWord w v).loops = s.loops := rfl
@[simp] theorem State.placeWord_shadow (s : State) (w v : Word) : (s.placeWord w v).shadow = s.shadow := rfl
@[simp] theorem State.placeWord_dvm (s : State) (w v : Word) : (s.placeWord w v).dvm = s.dvm := rfl
@[simp] theorem State.placeWord_ext (s : State) (w v : Word) : (s.placeWord w v).ext = s.ext := rfl
@[simp] theorem State.placeWord_dmem (s : State) (w v : Word) : (s.placeWord w v).dmem = s.dmem := rfl
@[simp] theorem State.placeWord_out (s : State) (w v : Word) : (s.placeWord w v).out = s.out := rfl
@[simp] theorem State.placeWord_chip (s : State) (w v : Word) : (s.placeWord w v).chip = s.chip := rfl
@[simp] theorem State.placeWord_freeCtr (s : State) (w v : Word) : (s.placeWord w v).freeCtr = s.freeCtr := rfl

end Sys2Proof.Machine
end

