-- ==== Sys2Proof/Laws/Ops.lean ====
section
/-! SUPPORT. For each shared operation, once, everything it can do when it answers a next state, and when it does. -/

namespace Sys2Proof.Machine

variable {s t : State} {a v : Word} {r : Reg}

/-! ### The two spaces -/

theorem readData_of_readable (h : s.readable a = true) (k : Word → State → Out) :
    readData s a k = k (Memory.word s.dmem a) s := by
  unfold State.readable at h; unfold readData; split at h <;> simp_all

theorem writeData_of_writable (h : s.writable a = true) (k : State → Out) :
    writeData s a v k = k { s with dmem := Memory.setWord s.dmem a v } := by
  unfold State.writable at h; unfold writeData; simp only [beq_iff_eq] at h; simp [h]

theorem readProg_of_readable (h : s.progReadable a = true) (k : Word → State → Out) :
    readProg s a k = k (Memory.word s.pmem a) s := by
  unfold State.progReadable at h; unfold readProg; split at h <;> simp_all

theorem writeProg_of_writable (h : s.progWritable a = true) (k : State → Out) :
    writeProg s a v k = k { s with pmem := Memory.setWord s.pmem a v } := by
  unfold State.progWritable at h; unfold writeProg; simp only [beq_iff_eq] at h; simp [h]

/-- A data read goes on in two ways: with the stored word, or with the answer of a device. -/
theorem readData_eq_next {k : Word → State → Out} :
    readData s a k = .next t ↔
      (s.readable a = true ∧ k (Memory.word s.dmem a) s = .next t) ∨
      (regionKind s.chip.dataMap a = .device ∧ k (Config.freeDevice s.freeCtr) (s.presentRead .data a) = .next t) := by
  unfold State.readable readData; cases regionKind s.chip.dataMap a <;> simp

/-- A data write goes on in three ways: the word is stored, a rom keeps its own, or the word is presented to a device. -/
theorem writeData_eq_next {k : State → Out} :
    writeData s a v k = .next t ↔
      (s.writable a = true ∧ k { s with dmem := Memory.setWord s.dmem a v } = .next t) ∨
      (regionKind s.chip.dataMap a = .rom ∧ k s = .next t) ∨
      (regionKind s.chip.dataMap a = .device ∧ k (s.presentWrite .data a v) = .next t) := by
  unfold State.writable writeData; cases regionKind s.chip.dataMap a <;> simp

/-- The same for a read of the program space by `movp`. -/
theorem readProg_eq_next {k : Word → State → Out} :
    readProg s a k = .next t ↔
      (s.progReadable a = true ∧ k (Memory.word s.pmem a) s = .next t) ∨
      (regionKind s.chip.progMap a = .device ∧ k (Config.freeDevice s.freeCtr) (s.presentRead .program a) = .next t) := by
  unfold State.progReadable readProg; cases regionKind s.chip.progMap a <;> simp

/-- A write of the program space by `movd` goes on in two ways: the word is stored, or presented to a device. -/
theorem writeProg_eq_next {k : State → Out} :
    writeProg s a v k = .next t ↔
      (s.progWritable a = true ∧ k { s with pmem := Memory.setWord s.pmem a v } = .next t) ∨
      (regionKind s.chip.progMap a = .device ∧ k (s.presentWrite .program a v) = .next t) := by
  unfold State.progWritable writeProg; cases regionKind s.chip.progMap a <;> simp

theorem fetchWord_eq_next {k : Word → Out} :
    fetchWord s a k = .next t ↔ s.progReadable a = true ∧ k (Memory.word s.pmem a) = .next t := by
  unfold State.progReadable fetchWord; cases regionKind s.chip.progMap a <;> simp

theorem State.readable_of_writable (h : s.writable a = true) : s.readable a = true := by
  unfold State.writable at h; unfold State.readable; simp only [beq_iff_eq] at h; simp [h]

/-- What can be read and written where depends on the chip alone. -/
theorem State.readable_congr (h : t.chip = s.chip) (a : Word) : t.readable a = s.readable a := by
  simp [State.readable, h]

theorem State.writable_congr (h : t.chip = s.chip) (a : Word) : t.writable a = s.writable a := by
  simp [State.writable, h]

/-! ### Registers -/

theorem readReg_eq_next {k : Word → State → Out} :
    readReg s r k = .next t ↔
      r.is16 = true ∧ s.hasReg r = true ∧ k (s.regValue r) (s.afterRead r) = .next t := by
  unfold readReg; cases r.is16 <;> cases s.hasReg r <;> simp

theorem readReg_of_ready (h : r.is16 = true) (h' : s.hasReg r = true) (k : Word → State → Out) :
    readReg s r k = k (s.regValue r) (s.afterRead r) := by simp [readReg, h, h']

theorem readMovSource_eq_next {k : Word → State → Out} :
    readMovSource s r k = .next t ↔
      (∃ i high, Reg.part r = some (i, high) ∧ readPart s i high k = .next t) ∨
      (Reg.part r = none ∧ readReg s r k = .next t) := by
  unfold readMovSource
  cases h : Reg.part r with
  | none => simp
  | some q =>
    simp only [reduceCtorEq, false_and, or_false]
    exact ⟨fun h => ⟨q.1, q.2, rfl, h⟩, fun ⟨i, high, e, g⟩ => by cases e; exact g⟩

theorem writeMovDest_eq_next : writeMovDest s r v = .next t ↔ s.hasReg r = true ∧ s.movReg r v = t := by
  unfold writeMovDest; cases s.hasReg r <;> simp

/-! ### Operands -/

theorem readSrc_direct {d : BitVec 8} (h : s.readable (s.addrDirect d) = true) (k : Word → State → Out) :
    readSrc (.direct d) s k = k (Memory.word s.dmem (s.addrDirect d)) s := readData_of_readable h k

theorem readSrc_ind {n : RN} {m : PostMod} (h : s.readable (s.ptr n) = true) (k : Word → State → Out) :
    readSrc (.ind n m) s k = k (Memory.word s.dmem (s.ptr n)) (s.bump n m) :=
  readData_of_readable h fun v t => k v (t.bump n m)

theorem readSrc_reg (h : r.is16 = true) (h' : s.hasReg r = true) (k : Word → State → Out) :
    readSrc (.reg r) s k = k (s.regValue r) (s.afterRead r) := readReg_of_ready h h' k

/-- What reading an operand leaves of a state: reads of devices presented, pointers post-modified, free values used. -/
inductive AfterRead (s : State) : State → Prop where
  | same : AfterRead s s
  | device {u : State} (p : Space) (a : Word) (h : AfterRead s u) : AfterRead s (u.presentRead p a)
  | bumped {u : State} (n : RN) (m : PostMod) (h : AfterRead s u) : AfterRead s (u.bump n m)
  | free {u : State} (c : Nat) (h : AfterRead s u) : AfterRead s { u with freeCtr := c }

/-- Reading an operand changes the pointers, the accesses shown and the free-value counter alone. -/
theorem AfterRead.frame {u : State} (h : AfterRead s u) :
    u = { s with dau := u.dau, out := u.out, freeCtr := u.freeCtr } := by
  induction h with
  | same => rfl
  | device p a _ ih => rw [ih]; rfl
  | bumped n m _ ih => rw [ih]; cases n <;> rfl
  | free c _ ih => rw [ih]

theorem AfterRead.ofReg (s : State) (r : Reg) : AfterRead s (s.afterRead r) := by
  unfold State.afterRead; split_ifs
  · exact .free _ .same
  · exact .device _ _ .same
  · exact .same

/-- A data read goes on with some word in a state that reading an operand leaves. -/
theorem readData_next {k : Word → State → Out} (h : readData s a k = .next t) :
    ∃ w u, AfterRead s u ∧ k w u = .next t := by
  rcases readData_eq_next.1 h with ⟨-, h⟩ | ⟨-, h⟩
  · exact ⟨_, _, .same, h⟩
  · exact ⟨_, _, .device _ _ .same, h⟩

theorem readSrc_next {x : Src} {k : Word → State → Out} (h : readSrc x s k = .next t) :
    ∃ w u, AfterRead s u ∧ k w u = .next t := by
  cases x with
  | direct d => exact readData_next h
  | ind n m =>
    obtain ⟨w, u, hu, hk⟩ := readData_next (k := fun v t => k v (t.bump n m)) h
    exact ⟨w, _, .bumped n m hu, hk⟩
  | reg r => exact ⟨_, _, .ofReg s r, (readReg_eq_next.1 h).2.2⟩

theorem readAlu_next {x : AluSrc} {e : Ext} {k : Acc → State → Out} (h : readAlu x e s k = .next t) :
    ∃ b u, AfterRead s u ∧ k b u = .next t := by
  unfold readAlu at h
  split at h
  · obtain ⟨w, u, hu, hk⟩ := readSrc_next h; exact ⟨_, u, hu, hk⟩
  · obtain ⟨w, u, hu, hk⟩ := readSrc_next h; exact ⟨_, u, hu, hk⟩
  · split_ifs at h
    · exact ⟨_, _, .same, h⟩
    · exact ⟨_, _, .same, h⟩
    · exact ⟨_, _, .same, h⟩
    · obtain ⟨w, u, hu, hk⟩ := readSrc_next h; exact ⟨_, u, hu, hk⟩
  · exact ⟨_, _, .same, h⟩
  · exact ⟨_, _, .same, h⟩
  · obtain ⟨w, u, hu, hk⟩ := readData_next h; exact ⟨_, u, hu, hk⟩
  · obtain ⟨w, u, hu, hk⟩ := readData_next h; exact ⟨_, u, hu, hk⟩
  · obtain ⟨w, u, hu, hk⟩ := readData_next h; exact ⟨_, u, hu, hk⟩

theorem AfterRead.trans {u w : State} (h : AfterRead s u) (g : AfterRead u w) : AfterRead s w := by
  induction g with
  | same => exact h
  | device p a _ ih => exact .device p a ih
  | bumped n m _ ih => exact .bumped n m ih
  | free c _ ih => exact .free c ih

theorem readMul_next {x : MulSrc} {k : Word → Word → State → Out} (h : readMul x s k = .next t) :
    ∃ y w u, AfterRead s u ∧ k y w u = .next t := by
  unfold readMul at h
  split at h
  · obtain ⟨w, u, hu, hk⟩ := readSrc_next h; exact ⟨_, w, u, hu, hk⟩
  · obtain ⟨w, u, hu, hk⟩ := readSrc_next h; exact ⟨_, w, u, hu, hk⟩
  · obtain ⟨w, u, hu, hk⟩ := readSrc_next h; exact ⟨_, w, u, hu, hk⟩
  · split_ifs at h
    · obtain ⟨y, u, hu, h⟩ := readData_next h
      obtain ⟨x, v, hv, h⟩ := readData_next h
      exact ⟨y, x, _, .bumped _ _ (.bumped _ _ (hu.trans hv)), h⟩
    · exact ⟨_, _, _, .free _ (.bumped _ _ (.bumped _ _ .same)), h⟩
  · obtain ⟨w, u, hu, hk⟩ := readSrc_next h; exact ⟨w, _, u, hu, hk⟩

theorem readExp_next {x : ExpSrc} {k : Acc → State → Out} (h : readExp x s k = .next t) :
    ∃ b u, AfterRead s u ∧ k b u = .next t := by
  unfold readExp at h
  split at h
  · obtain ⟨w, u, hu, hk⟩ := readSrc_next h; exact ⟨_, u, hu, hk⟩
  · split_ifs at h
    · exact ⟨_, _, .same, h⟩
    · exact ⟨_, _, .same, h⟩
    · obtain ⟨w, u, hu, hk⟩ := readSrc_next h; exact ⟨_, u, hu, hk⟩
  · exact ⟨_, _, .same, h⟩

/-! ### The stack and the entry of a service routine -/

theorem push_eq_next {k : State → Out} :
    push s v k = .next t ↔
      (s.writable (s.dau.sp - 1) = true ∧
        k { s with dmem := Memory.setWord s.dmem (s.dau.sp - 1) v, dau := { s.dau with sp := s.dau.sp - 1 } } = .next t) ∨
      (regionKind s.chip.dataMap (s.dau.sp - 1) = .rom ∧
        k { s with dau := { s.dau with sp := s.dau.sp - 1 } } = .next t) ∨
      (regionKind s.chip.dataMap (s.dau.sp - 1) = .device ∧
        k { s.presentWrite .data (s.dau.sp - 1) v with dau := { s.dau with sp := s.dau.sp - 1 } } = .next t) :=
  writeData_eq_next

theorem pop_eq_next {k : Word → State → Out} :
    pop s k = .next t ↔
      (s.readable s.dau.sp = true ∧
        k (Memory.word s.dmem s.dau.sp) { s with dau := { s.dau with sp := s.dau.sp + 1 } } = .next t) ∨
      (regionKind s.chip.dataMap s.dau.sp = .device ∧
        k (Config.freeDevice s.freeCtr)
          { s.presentRead .data s.dau.sp with dau := { s.dau with sp := s.dau.sp + 1 } } = .next t) :=
  readData_eq_next

/-- What taking an interrupt or a trap leaves of memory, of the block-repeat levels and of the waiting delayed return. -/
theorem enter_next {k : Source} (h : enter k s = .next t) :
    ((s.writable (s.dau.sp - 1) = true ∧ t.dmem = Memory.setWord s.dmem (s.dau.sp - 1) s.pc) ∨
        ((regionKind s.chip.dataMap (s.dau.sp - 1) = .rom ∨ regionKind s.chip.dataMap (s.dau.sp - 1) = .device) ∧
          t.dmem = s.dmem)) ∧
      t.pmem = s.pmem ∧ t.pc = k.vector ∧ t.icr = s.icr ∧ t.svc.dret = s.svc.dret ∧ t.svc.hold = s.svc.hold ∧
      t.chip = s.chip := by
  unfold enter at h
  rcases push_eq_next.1 h with ⟨hw, h⟩ | ⟨hw, h⟩ | ⟨hw, h⟩ <;> simp only [Host.Outcome.next.injEq] at h <;> subst h
  · refine ⟨.inl ⟨hw, ?_⟩, ?_⟩ <;> split <;> first | rfl | exact ⟨rfl, rfl, rfl, rfl, rfl, rfl⟩
  · refine ⟨.inr ⟨.inl hw, ?_⟩, ?_⟩ <;> split <;> first | rfl | exact ⟨rfl, rfl, rfl, rfl, rfl, rfl⟩
  · refine ⟨.inr ⟨.inr hw, ?_⟩, ?_⟩ <;> split <;> first | rfl | exact ⟨rfl, rfl, rfl, rfl, rfl, rfl⟩

/-! ### The step -/

theorem runInstr_eq_next {i : Instr} :
    runInstr i s = .next t ↔
      hazard (Instr.traits i) s.pc (s.begin (Instr.traits i).words) = none ∧
      ∃ u, exec i (s.begin (Instr.traits i).words) = .next u ∧ u.finish s (Instr.traits i) = t := by
  unfold runInstr
  simp only []
  cases hazard (Instr.traits i) s.pc (s.begin (Instr.traits i).words) with
  | some r => simp
  | none => cases exec i (s.begin (Instr.traits i).words) <;> simp

theorem fetch_next {k : Word → Word → Out} (h : fetch s k = .next t) :
    s.progReadable s.pc = true ∧ ∃ v, k (Memory.word s.pmem s.pc) v = .next t := by
  unfold fetch at h
  obtain ⟨h1, h⟩ := fetchWord_eq_next.1 h
  refine ⟨h1, ?_⟩
  split_ifs at h
  · exact ⟨_, (fetchWord_eq_next.1 h).2⟩
  · exact ⟨_, h⟩

/-- Everything a step can be: the reset event, an entry, or one instruction, the inserted or the fetched one. -/
theorem step_next (h : step s = .next t) :
    (s.pins.reset = true ∧ s.resetEvent = t) ∨
    (s.pins.reset = false ∧ ∃ k, s.accepted = some k ∧ enter k { s with out := Outputs.quiet } = .next t) ∨
    (s.pins.reset = false ∧ s.accepted = none ∧
      ((s.svc.inBoot = true ∧ s.pc = 0 ∧
          runInstr bootInstr { s with svc := { s.svc with inBoot := false } } = .next t) ∨
        ∃ v i, decode (Memory.word s.pmem s.pc) v = .ok i ∧ runInstr i s = .next t)) := by
  unfold step stepOnce at h
  by_cases hr : s.pins.reset = true
  · rw [if_pos hr] at h
    exact .inl ⟨hr, by simpa using h⟩
  · have hr' : s.pins.reset = false := by simpa using hr
    rw [if_neg hr] at h
    cases ha : s.accepted with
    | some k => rw [ha] at h; exact .inr (.inl ⟨hr', k, rfl, h⟩)
    | none =>
      rw [ha] at h
      refine .inr (.inr ⟨hr', rfl, ?_⟩)
      by_cases hb : (s.svc.inBoot && s.pc == 0) = true
      · simp only [hb, if_true] at h
        simp only [Bool.and_eq_true, beq_iff_eq] at hb
        exact .inl ⟨hb.1, hb.2, h⟩
      · simp only [hb] at h
        obtain ⟨-, v, h⟩ := fetch_next h
        cases hd : decode (Memory.word s.pmem s.pc) v with
        | ok i => rw [hd] at h; exact .inr ⟨v, i, hd, h⟩
        | error e => rw [hd] at h; cases h

end Sys2Proof.Machine
end

