-- ==== Sys2Proof/Laws/PerInstr.lean ====
section
/-! SUPPORT. The family `WordShape`, one lemma for each constructor: the encoder writes as many words as the sequencing
rules count (30_encoding.md R130, R131, R162). -/

namespace Sys2Proof.Laws.WordShape

open Sys2Proof Sys2Proof.Machine

/-- The encoding has the number of words that the instruction's traits give, one or two. -/
def Statement (i : Instr) : Prop := (encode i).length = (Instr.traits i).words

theorem movrIndPart (d : AB) (q : MovrPtr) (m : PostMod) : Statement (.movrIndPart d q m) := rfl
theorem orDirect (d : AX) (a : BitVec 8) : Statement (.orDirect d a) := rfl
theorem orInd (d : AX) (n : RN) (m : PostMod) : Statement (.orInd d n m) := rfl
theorem orReg (d : AX) (r : Reg) : Statement (.orReg d r) := rfl
theorem andDirect (d : AX) (a : BitVec 8) : Statement (.andDirect d a) := rfl
theorem andInd (d : AX) (n : RN) (m : PostMod) : Statement (.andInd d n m) := rfl
theorem andReg (d : AX) (r : Reg) : Statement (.andReg d r) := rfl
theorem xorDirect (d : AX) (a : BitVec 8) : Statement (.xorDirect d a) := rfl
theorem xorInd (d : AX) (n : RN) (m : PostMod) : Statement (.xorInd d n m) := rfl
theorem xorReg (d : AX) (r : Reg) : Statement (.xorReg d r) := rfl
theorem addDirect (d : AX) (a : BitVec 8) : Statement (.addDirect d a) := rfl
theorem addInd (d : AX) (n : RN) (m : PostMod) : Statement (.addInd d n m) := rfl
theorem addReg (d : AX) (r : Reg) : Statement (.addReg d r) := rfl
theorem tst0Direct (d : AX) (a : BitVec 8) : Statement (.tst0Direct d a) := rfl
theorem tst0Ind (d : AX) (n : RN) (m : PostMod) : Statement (.tst0Ind d n m) := rfl
theorem tst0Reg (d : AX) (r : Reg) : Statement (.tst0Reg d r) := rfl
theorem tst1Direct (d : AX) (a : BitVec 8) : Statement (.tst1Direct d a) := rfl
theorem tst1Ind (d : AX) (n : RN) (m : PostMod) : Statement (.tst1Ind d n m) := rfl
theorem tst1Reg (d : AX) (r : Reg) : Statement (.tst1Reg d r) := rfl
theorem cmpDirect (d : AX) (a : BitVec 8) : Statement (.cmpDirect d a) := rfl
theorem cmpInd (d : AX) (n : RN) (m : PostMod) : Statement (.cmpInd d n m) := rfl
theorem cmpReg (d : AX) (r : Reg) : Statement (.cmpReg d r) := rfl
theorem subDirect (d : AX) (a : BitVec 8) : Statement (.subDirect d a) := rfl
theorem subInd (d : AX) (n : RN) (m : PostMod) : Statement (.subInd d n m) := rfl
theorem subReg (d : AX) (r : Reg) : Statement (.subReg d r) := rfl
theorem msuYDirect (d : AX) (a : BitVec 8) : Statement (.msuYDirect d a) := rfl
theorem msuYInd (d : AX) (n : RN) (m : PostMod) : Statement (.msuYInd d n m) := rfl
theorem msuYReg (d : AX) (r : Reg) : Statement (.msuYReg d r) := rfl
theorem addhDirect (d : AX) (a : BitVec 8) : Statement (.addhDirect d a) := rfl
theorem addhInd (d : AX) (n : RN) (m : PostMod) : Statement (.addhInd d n m) := rfl
theorem addhReg (d : AX) (r : Reg) : Statement (.addhReg d r) := rfl
theorem addlDirect (d : AX) (a : BitVec 8) : Statement (.addlDirect d a) := rfl
theorem addlInd (d : AX) (n : RN) (m : PostMod) : Statement (.addlInd d n m) := rfl
theorem addlReg (d : AX) (r : Reg) : Statement (.addlReg d r) := rfl
theorem subhDirect (d : AX) (a : BitVec 8) : Statement (.subhDirect d a) := rfl
theorem subhInd (d : AX) (n : RN) (m : PostMod) : Statement (.subhInd d n m) := rfl
theorem subhReg (d : AX) (r : Reg) : Statement (.subhReg d r) := rfl
theorem sublDirect (d : AX) (a : BitVec 8) : Statement (.sublDirect d a) := rfl
theorem sublInd (d : AX) (n : RN) (m : PostMod) : Statement (.sublInd d n m) := rfl
theorem sublReg (d : AX) (r : Reg) : Statement (.sublReg d r) := rfl
theorem sqrDirect (a : BitVec 8) : Statement (.sqrDirect a) := rfl
theorem sqrInd (n : RN) (m : PostMod) : Statement (.sqrInd n m) := rfl
theorem sqrReg (r : Reg) : Statement (.sqrReg r) := rfl
theorem sqraDirect (d : AX) (a : BitVec 8) : Statement (.sqraDirect d a) := rfl
theorem sqraInd (d : AX) (n : RN) (m : PostMod) : Statement (.sqraInd d n m) := rfl
theorem sqraReg (d : AX) (r : Reg) : Statement (.sqraReg d r) := rfl
theorem cmpuDirect (d : AX) (a : BitVec 8) : Statement (.cmpuDirect d a) := rfl
theorem cmpuInd (d : AX) (n : RN) (m : PostMod) : Statement (.cmpuInd d n m) := rfl
theorem cmpuReg (d : AX) (r : Reg) : Statement (.cmpuReg d r) := rfl
theorem orShort (d : AX) (v : BitVec 8) : Statement (.orShort d v) := rfl
theorem orLong (d : AX) (v : Word) : Statement (.orLong d v) := rfl
theorem orIdx7 (d : AX) (o : BitVec 7) : Statement (.orIdx7 d o) := rfl
theorem orIdx16 (d : AX) (v : Word) : Statement (.orIdx16 d v) := rfl
theorem orDirLong (d : AX) (v : Word) : Statement (.orDirLong d v) := rfl
theorem andShort (d : AX) (v : BitVec 8) : Statement (.andShort d v) := rfl
theorem andLong (d : AX) (v : Word) : Statement (.andLong d v) := rfl
theorem andIdx7 (d : AX) (o : BitVec 7) : Statement (.andIdx7 d o) := rfl
theorem andIdx16 (d : AX) (v : Word) : Statement (.andIdx16 d v) := rfl
theorem andDirLong (d : AX) (v : Word) : Statement (.andDirLong d v) := rfl
theorem xorShort (d : AX) (v : BitVec 8) : Statement (.xorShort d v) := rfl
theorem xorLong (d : AX) (v : Word) : Statement (.xorLong d v) := rfl
theorem xorIdx7 (d : AX) (o : BitVec 7) : Statement (.xorIdx7 d o) := rfl
theorem xorIdx16 (d : AX) (v : Word) : Statement (.xorIdx16 d v) := rfl
theorem xorDirLong (d : AX) (v : Word) : Statement (.xorDirLong d v) := rfl
theorem addShort (d : AX) (v : BitVec 8) : Statement (.addShort d v) := rfl
theorem addLong (d : AX) (v : Word) : Statement (.addLong d v) := rfl
theorem addIdx7 (d : AX) (o : BitVec 7) : Statement (.addIdx7 d o) := rfl
theorem addIdx16 (d : AX) (v : Word) : Statement (.addIdx16 d v) := rfl
theorem addDirLong (d : AX) (v : Word) : Statement (.addDirLong d v) := rfl
theorem cmpShort (d : AX) (v : BitVec 8) : Statement (.cmpShort d v) := rfl
theorem cmpLong (d : AX) (v : Word) : Statement (.cmpLong d v) := rfl
theorem cmpIdx7 (d : AX) (o : BitVec 7) : Statement (.cmpIdx7 d o) := rfl
theorem cmpIdx16 (d : AX) (v : Word) : Statement (.cmpIdx16 d v) := rfl
theorem cmpDirLong (d : AX) (v : Word) : Statement (.cmpDirLong d v) := rfl
theorem subShort (d : AX) (v : BitVec 8) : Statement (.subShort d v) := rfl
theorem subLong (d : AX) (v : Word) : Statement (.subLong d v) := rfl
theorem subIdx7 (d : AX) (o : BitVec 7) : Statement (.subIdx7 d o) := rfl
theorem subIdx16 (d : AX) (v : Word) : Statement (.subIdx16 d v) := rfl
theorem subDirLong (d : AX) (v : Word) : Statement (.subDirLong d v) := rfl
theorem shrA (d : AX) (c : Cond) : Statement (.shrA d c) := rfl
theorem shr4A (d : AX) (c : Cond) : Statement (.shr4A d c) := rfl
theorem shlA (d : AX) (c : Cond) : Statement (.shlA d c) := rfl
theorem shl4A (d : AX) (c : Cond) : Statement (.shl4A d c) := rfl
theorem rorA (d : AX) (c : Cond) : Statement (.rorA d c) := rfl
theorem rolA (d : AX) (c : Cond) : Statement (.rolA d c) := rfl
theorem clrA (d : AX) (c : Cond) : Statement (.clrA d c) := rfl
theorem notA (d : AX) (c : Cond) : Statement (.notA d c) := rfl
theorem negA (d : AX) (c : Cond) : Statement (.negA d c) := rfl
theorem rndA (d : AX) (c : Cond) : Statement (.rndA d c) := rfl
theorem pacrA (d : AX) (c : Cond) : Statement (.pacrA d c) := rfl
theorem clrrA (d : AX) (c : Cond) : Statement (.clrrA d c) := rfl
theorem incA (d : AX) (c : Cond) : Statement (.incA d c) := rfl
theorem decA (d : AX) (c : Cond) : Statement (.decA d c) := rfl
theorem copyA (d : AX) (c : Cond) : Statement (.copyA d c) := rfl
theorem norm (d : AX) (n : RN) (m : PostMod) : Statement (.norm d n m) := rfl
theorem divs (d : AX) (a : BitVec 8) : Statement (.divs d a) := rfl
theorem setInd (n : RN) (m : PostMod) (v : Word) : Statement (.setInd n m v) := rfl
theorem setReg (r : Reg) (v : Word) : Statement (.setReg r v) := rfl
theorem setDirect (a : BitVec 8) (v : Word) : Statement (.setDirect a v) := rfl
theorem rstInd (n : RN) (m : PostMod) (v : Word) : Statement (.rstInd n m v) := rfl
theorem rstReg (r : Reg) (v : Word) : Statement (.rstReg r v) := rfl
theorem rstDirect (a : BitVec 8) (v : Word) : Statement (.rstDirect a v) := rfl
theorem chngInd (n : RN) (m : PostMod) (v : Word) : Statement (.chngInd n m v) := rfl
theorem chngReg (r : Reg) (v : Word) : Statement (.chngReg r v) := rfl
theorem chngDirect (a : BitVec 8) (v : Word) : Statement (.chngDirect a v) := rfl
theorem addvInd (n : RN) (m : PostMod) (v : Word) : Statement (.addvInd n m v) := rfl
theorem addvReg (r : Reg) (v : Word) : Statement (.addvReg r v) := rfl
theorem addvDirect (a : BitVec 8) (v : Word) : Statement (.addvDirect a v) := rfl
theorem tst0LongInd (n : RN) (m : PostMod) (v : Word) : Statement (.tst0LongInd n m v) := rfl
theorem tst0LongReg (r : Reg) (v : Word) : Statement (.tst0LongReg r v) := rfl
theorem tst0LongDirect (a : BitVec 8) (v : Word) : Statement (.tst0LongDirect a v) := rfl
theorem tst1LongInd (n : RN) (m : PostMod) (v : Word) : Statement (.tst1LongInd n m v) := rfl
theorem tst1LongReg (r : Reg) (v : Word) : Statement (.tst1LongReg r v) := rfl
theorem tst1LongDirect (a : BitVec 8) (v : Word) : Statement (.tst1LongDirect a v) := rfl
theorem cmpvInd (n : RN) (m : PostMod) (v : Word) : Statement (.cmpvInd n m v) := rfl
theorem cmpvReg (r : Reg) (v : Word) : Statement (.cmpvReg r v) := rfl
theorem cmpvDirect (a : BitVec 8) (v : Word) : Statement (.cmpvDirect a v) := rfl
theorem subvInd (n : RN) (m : PostMod) (v : Word) : Statement (.subvInd n m v) := rfl
theorem subvReg (r : Reg) (v : Word) : Statement (.subvReg r v) := rfl
theorem subvDirect (a : BitVec 8) (v : Word) : Statement (.subvDirect a v) := rfl
theorem maxd (c : MaxCond) (d : AX) (m : PostMod) : Statement (.maxd c d m) := rfl
theorem max (c : MaxCond) (d : AX) (m : PostMod) : Statement (.max c d m) := rfl
theorem min (c : MinCond) (d : AX) (m : PostMod) : Statement (.min c d m) := rfl
theorem mpyYInd (n : RN) (m : PostMod) : Statement (.mpyYInd n m) := rfl
theorem mpyYReg (r : Reg) : Statement (.mpyYReg r) := rfl
theorem mpyDual (j : RJ) (jm : PostMod) (i : RI) (im : PostMod) : Statement (.mpyDual j jm i im) := rfl
theorem mpyLong (n : RN) (m : PostMod) (v : Word) : Statement (.mpyLong n m v) := rfl
theorem mpysuYInd (n : RN) (m : PostMod) : Statement (.mpysuYInd n m) := rfl
theorem mpysuYReg (r : Reg) : Statement (.mpysuYReg r) := rfl
theorem mpysuDual (j : RJ) (jm : PostMod) (i : RI) (im : PostMod) : Statement (.mpysuDual j jm i im) := rfl
theorem mpysuLong (n : RN) (m : PostMod) (v : Word) : Statement (.mpysuLong n m v) := rfl
theorem macYInd (d : AX) (n : RN) (m : PostMod) : Statement (.macYInd d n m) := rfl
theorem macYReg (d : AX) (r : Reg) : Statement (.macYReg d r) := rfl
theorem macDual (d : AX) (j : RJ) (jm : PostMod) (i : RI) (im : PostMod) : Statement (.macDual d j jm i im) := rfl
theorem macLong (d : AX) (n : RN) (m : PostMod) (v : Word) : Statement (.macLong d n m v) := rfl
theorem macusYInd (d : AX) (n : RN) (m : PostMod) : Statement (.macusYInd d n m) := rfl
theorem macusYReg (d : AX) (r : Reg) : Statement (.macusYReg d r) := rfl
theorem macusDual (d : AX) (j : RJ) (jm : PostMod) (i : RI) (im : PostMod) : Statement (.macusDual d j jm i im) := rfl
theorem macusLong (d : AX) (n : RN) (m : PostMod) (v : Word) : Statement (.macusLong d n m v) := rfl
theorem maaYInd (d : AX) (n : RN) (m : PostMod) : Statement (.maaYInd d n m) := rfl
theorem maaYReg (d : AX) (r : Reg) : Statement (.maaYReg d r) := rfl
theorem maaDual (d : AX) (j : RJ) (jm : PostMod) (i : RI) (im : PostMod) : Statement (.maaDual d j jm i im) := rfl
theorem maaLong (d : AX) (n : RN) (m : PostMod) (v : Word) : Statement (.maaLong d n m v) := rfl
theorem macuuYInd (d : AX) (n : RN) (m : PostMod) : Statement (.macuuYInd d n m) := rfl
theorem macuuYReg (d : AX) (r : Reg) : Statement (.macuuYReg d r) := rfl
theorem macuuDual (d : AX) (j : RJ) (jm : PostMod) (i : RI) (im : PostMod) : Statement (.macuuDual d j jm i im) := rfl
theorem macuuLong (d : AX) (n : RN) (m : PostMod) (v : Word) : Statement (.macuuLong d n m v) := rfl
theorem macsuYInd (d : AX) (n : RN) (m : PostMod) : Statement (.macsuYInd d n m) := rfl
theorem macsuYReg (d : AX) (r : Reg) : Statement (.macsuYReg d r) := rfl
theorem macsuDual (d : AX) (j : RJ) (jm : PostMod) (i : RI) (im : PostMod) : Statement (.macsuDual d j jm i im) := rfl
theorem macsuLong (d : AX) (n : RN) (m : PostMod) (v : Word) : Statement (.macsuLong d n m v) := rfl
theorem maasuYInd (d : AX) (n : RN) (m : PostMod) : Statement (.maasuYInd d n m) := rfl
theorem maasuYReg (d : AX) (r : Reg) : Statement (.maasuYReg d r) := rfl
theorem maasuDual (d : AX) (j : RJ) (jm : PostMod) (i : RI) (im : PostMod) : Statement (.maasuDual d j jm i im) := rfl
theorem maasuLong (d : AX) (n : RN) (m : PostMod) (v : Word) : Statement (.maasuLong d n m v) := rfl
theorem mpyYDirect (a : BitVec 8) : Statement (.mpyYDirect a) := rfl
theorem macYDirect (d : AX) (a : BitVec 8) : Statement (.macYDirect d a) := rfl
theorem maaYDirect (d : AX) (a : BitVec 8) : Statement (.maaYDirect d a) := rfl
theorem macsuYDirect (d : AX) (a : BitVec 8) : Statement (.macsuYDirect d a) := rfl
theorem mpyi (v : BitVec 8) : Statement (.mpyi v) := rfl
theorem msuLong (d : AX) (n : RN) (m : PostMod) (v : Word) : Statement (.msuLong d n m v) := rfl
theorem msuDual (d : AX) (j : RJ) (jm : PostMod) (i : RI) (im : PostMod) : Statement (.msuDual d j jm i im) := rfl
theorem tstbInd (k : BitVec 4) (n : RN) (m : PostMod) : Statement (.tstbInd k n m) := rfl
theorem tstbReg (k : BitVec 4) (r : Reg) : Statement (.tstbReg k r) := rfl
theorem tstbDirect (k : BitVec 4) (a : BitVec 8) : Statement (.tstbDirect k a) := rfl
theorem shfc (src : AB) (d : AB) (c : Cond) : Statement (.shfc src d c) := rfl
theorem shfi (src : AB) (d : AB) (k : BitVec 6) : Statement (.shfi src d k) := rfl
theorem shrB (d : BX) (c : Cond) : Statement (.shrB d c) := rfl
theorem shr4B (d : BX) (c : Cond) : Statement (.shr4B d c) := rfl
theorem shlB (d : BX) (c : Cond) : Statement (.shlB d c) := rfl
theorem shl4B (d : BX) (c : Cond) : Statement (.shl4B d c) := rfl
theorem rorB (d : BX) (c : Cond) : Statement (.rorB d c) := rfl
theorem rolB (d : BX) (c : Cond) : Statement (.rolB d c) := rfl
theorem clrB (d : BX) (c : Cond) : Statement (.clrB d c) := rfl
theorem expIndA (d : AX) (n : RN) (m : PostMod) : Statement (.expIndA d n m) := rfl
theorem expRegA (d : AX) (r : Reg) : Statement (.expRegA d r) := rfl
theorem expIndSv (n : RN) (m : PostMod) : Statement (.expIndSv n m) := rfl
theorem expRegSv (r : Reg) : Statement (.expRegSv r) := rfl
theorem movRegReg (d : Reg) (r : Reg) : Statement (.movRegReg d r) := rfl
theorem movAccAcc (src : AB) (d : AB) : Statement (.movAccAcc src d) := rfl
theorem movRegB (b : BX) (r : Reg) : Statement (.movRegB b r) := rfl
theorem movRegMixp (r : Reg) : Statement (.movRegMixp r) := rfl
theorem movRegInd (r : Reg) (n : RN) (m : PostMod) : Statement (.movRegInd r n m) := rfl
theorem movMixpReg (r : Reg) : Statement (.movMixpReg r) := rfl
theorem movIcrAcc (d : AB) : Statement (.movIcrAcc d) := rfl
theorem movXAcc (d : AB) : Statement (.movXAcc d) := rfl
theorem movIndReg (r : Reg) (n : RN) (m : PostMod) : Statement (.movIndReg r n m) := rfl
theorem movIndB (b : BX) (n : RN) (m : PostMod) : Statement (.movIndB b n m) := rfl
theorem movSpReg (r : Reg) : Statement (.movSpReg r) := rfl
theorem movRnDirect (n : RNStar) (a : BitVec 8) : Statement (.movRnDirect n a) := rfl
theorem movPartDirect (q : AccPart) (a : BitVec 8) : Statement (.movPartDirect q a) := rfl
theorem movDirectRn (n : RNStar) (a : BitVec 8) : Statement (.movDirectRn n a) := rfl
theorem movDirectAcc (d : AB) (a : BitVec 8) : Statement (.movDirectAcc d a) := rfl
theorem movDirectPart (q : AccPart) (a : BitVec 8) : Statement (.movDirectPart q a) := rfl
theorem movDirectHighEu (d : AX) (a : BitVec 8) : Statement (.movDirectHighEu d a) := rfl
theorem movDirectSv (a : BitVec 8) : Statement (.movDirectSv a) := rfl
theorem movSvDirect (a : BitVec 8) : Statement (.movSvDirect a) := rfl
theorem movDirLongA (d : AX) (v : Word) : Statement (.movDirLongA d v) := rfl
theorem movLowDirLong (d : AX) (v : Word) : Statement (.movLowDirLong d v) := rfl
theorem movLongReg (r : Reg) (v : Word) : Statement (.movLongReg r v) := rfl
theorem movLongB (b : BX) (v : Word) : Statement (.movLongB b v) := rfl
theorem movShortLow (d : AX) (v : BitVec 8) : Statement (.movShortLow d v) := rfl
theorem movShortHigh (d : AX) (v : BitVec 8) : Statement (.movShortHigh d v) := rfl
theorem movShortRn (n : RNStar) (v : BitVec 8) : Statement (.movShortRn n v) := rfl
theorem movShortExt (e : ExtReg) (v : BitVec 8) : Statement (.movShortExt e v) := rfl
theorem movShortSv (v : BitVec 8) : Statement (.movShortSv v) := rfl
theorem movRegIcr (r : Reg) : Statement (.movRegIcr r) := rfl
theorem movImmIcr (v : BitVec 5) : Statement (.movImmIcr v) := rfl
theorem movIdx7A (d : AX) (o : BitVec 7) : Statement (.movIdx7A d o) := rfl
theorem movLowIdx7 (d : AX) (o : BitVec 7) : Statement (.movLowIdx7 d o) := rfl
theorem movIdx16A (d : AX) (v : Word) : Statement (.movIdx16A d v) := rfl
theorem movLowIdx16 (d : AX) (v : Word) : Statement (.movLowIdx16 d v) := rfl
theorem movpLowReg (d : AX) (r : Reg) : Statement (.movpLowReg d r) := rfl
theorem movpIndInd (i : RI) (im : PostMod) (n : RN) (m : PostMod) : Statement (.movpIndInd i im n m) := rfl
theorem movsReg (d : AB) (r : Reg) : Statement (.movsReg d r) := rfl
theorem movsInd (d : AB) (n : RN) (m : PostMod) : Statement (.movsInd d n m) := rfl
theorem movsDirect (d : AB) (a : BitVec 8) : Statement (.movsDirect d a) := rfl
theorem movsi (n : RNStar) (d : AB) (k : BitVec 5) : Statement (.movsi n d k) := rfl
theorem movrReg (d : AX) (r : Reg) : Statement (.movrReg d r) := rfl
theorem movrInd (d : AX) (n : RN) (m : PostMod) : Statement (.movrInd d n m) := rfl
theorem pushReg (r : Reg) : Statement (.pushReg r) := rfl
theorem pushLong (v : Word) : Statement (.pushLong v) := rfl
theorem popReg (r : Reg) : Statement (.popReg r) := rfl
theorem swap (o : SwapOp) : Statement (.swap o) := rfl
theorem banke (k : BitVec 4) : Statement (.banke k) := rfl
theorem movd (i : RI) (im : PostMod) (j : RJ) (jm : PostMod) : Statement (.movd i im j jm) := rfl
theorem repReg (r : Reg) : Statement (.repReg r) := rfl
theorem repShort (v : BitVec 8) : Statement (.repShort v) := rfl
theorem bkrepShort (v : BitVec 8) (w2 : Word) : Statement (.bkrepShort v w2) := rfl
theorem bkrepReg (r : Reg) (w2 : Word) : Statement (.bkrepReg r w2) := rfl
theorem br (c : Cond) (v : Word) : Statement (.br c v) := rfl
theorem brr (o : BitVec 7) (c : Cond) : Statement (.brr o c) := rfl
theorem call (c : Cond) (v : Word) : Statement (.call c v) := rfl
theorem callr (o : BitVec 7) (c : Cond) : Statement (.callr o c) := rfl
theorem ret (c : Cond) : Statement (.ret c) := rfl
theorem reti (ctx : Bool) (c : Cond) : Statement (.reti ctx c) := rfl
theorem rets (v : BitVec 8) : Statement (.rets v) := rfl
theorem modr (dmod : Bool) (n : RN) (m : PostMod) : Statement (.modr dmod n m) := rfl
theorem loadPage (v : BitVec 8) : Statement (.loadPage v) := rfl
theorem loadModi (v : BitVec 9) : Statement (.loadModi v) := rfl
theorem loadModj (v : BitVec 9) : Statement (.loadModj v) := rfl
theorem loadStepi (v : BitVec 7) : Statement (.loadStepi v) := rfl
theorem loadStepj (v : BitVec 7) : Statement (.loadStepj v) := rfl
theorem loadPs (v : BitVec 2) : Statement (.loadPs v) := rfl
theorem limA0 : Statement (.limA0) := rfl
theorem limA0A1 : Statement (.limA0A1) := rfl
theorem limA1A0 : Statement (.limA1A0) := rfl
theorem limA1 : Statement (.limA1) := rfl
theorem expB0A0 : Statement (.expB0A0) := rfl
theorem expB1A0 : Statement (.expB1A0) := rfl
theorem expB0A1 : Statement (.expB0A1) := rfl
theorem expB1A1 : Statement (.expB1A1) := rfl
theorem expB0Sv : Statement (.expB0Sv) := rfl
theorem expB1Sv : Statement (.expB1Sv) := rfl
theorem movB0lDvm : Statement (.movB0lDvm) := rfl
theorem movB1lDvm : Statement (.movB1lDvm) := rfl
theorem movA0lDvm : Statement (.movA0lDvm) := rfl
theorem movA1lDvm : Statement (.movA1lDvm) := rfl
theorem movB0lX : Statement (.movB0lX) := rfl
theorem movB1lX : Statement (.movB1lX) := rfl
theorem movA0lX : Statement (.movA0lX) := rfl
theorem movA1lX : Statement (.movA1lX) := rfl
theorem movRepcB0 : Statement (.movRepcB0) := rfl
theorem movRepcB1 : Statement (.movRepcB1) := rfl
theorem movRepcA0 : Statement (.movRepcA0) := rfl
theorem movRepcA1 : Statement (.movRepcA1) := rfl
theorem movDvmB0 : Statement (.movDvmB0) := rfl
theorem movDvmB1 : Statement (.movDvmB1) := rfl
theorem movDvmA0 : Statement (.movDvmA0) := rfl
theorem movDvmA1 : Statement (.movDvmA1) := rfl
theorem breakLoop : Statement (.breakLoop) := rfl
theorem callaA0 : Statement (.callaA0) := rfl
theorem callaA1 : Statement (.callaA1) := rfl
theorem retd : Statement (.retd) := rfl
theorem retid : Statement (.retid) := rfl
theorem cntxS : Statement (.cntxS) := rfl
theorem cntxR : Statement (.cntxR) := rfl
theorem nop : Statement (.nop) := rfl
theorem eint : Statement (.eint) := rfl
theorem dint : Statement (.dint) := rfl
theorem trap : Statement (.trap) := rfl

end Sys2Proof.Laws.WordShape
end

