-- ==== Sys2Proof/Tests/Slice0.lean ====
section
/-! SUPPORT. The model's own tests: ill-formed terms that well-formedness refuses, a word written out from 30_encoding.md
for every constructor, one-step vectors of 95_test_vectors.md, and a witness for the hypotheses of each statement. -/

namespace Sys2Proof.Tests

open Sys2Proof Sys2Proof.Machine Sys2Proof.Claim

set_option Elab.async false

/-! ### Well-formedness -/

/-- One ill-formed term for each check of WellFormed.lean (R159), the accumulator excluded from its own operation first. -/
theorem test_ill_formed_own_accumulator :
    [Instr.orReg .a0 .a0, .andReg .a1 .a1, .xorReg .a0 .a0, .addReg .a1 .a1, .cmpReg .a0 .a0, .subReg .a1 .a1].all
      (fun i => !i.wellFormed) = true := by decide +kernel

/-- Operations on a 16-bit operand refuse a0, a1 and p (R62, R159). -/
theorem test_ill_formed_sixteen :
    [Instr.msuYReg .a0 .p, .addhReg .a0 .a1, .addlReg .a0 .p, .subhReg .a0 .a0, .sublReg .a1 .p, .sqrReg .a0, .sqraReg .a0 .p,
     .cmpuReg .a0 .a1, .mpyYReg .p, .mpysuYReg .a0, .macYReg .a0 .a1, .macusYReg .a0 .p, .maaYReg .a1 .a0, .macuuYReg .a0 .p,
     .macsuYReg .a1 .a1, .maasuYReg .a0 .p, .movRegB .b0 .p, .movRegMixp .a0, .movRegIcr .a1, .movsReg .b0 .p, .movrReg .a0 .p,
     .pushReg .a0, .repReg .p, .bkrepReg .a1 0].all (fun i => !i.wellFormed) = true := by decide +kernel

/-- The bit-field instructions refuse a0, a1, p and pc (R295). -/
theorem test_ill_formed_bit_field :
    [Instr.tst0Reg .a0 .pc, .tst1Reg .a0 .p, .setReg .pc 0, .rstReg .a0 0, .chngReg .a1 0, .addvReg .p 0, .tst0LongReg .pc 0,
     .tst1LongReg .a0 0, .cmpvReg .pc 0, .subvReg .p 0, .tstbReg 3 .pc].all (fun i => !i.wellFormed) = true := by
  decide +kernel

/-- `exp` refuses p and pc (R311); `mov` refuses equal registers, a whole accumulator or p as source (R331), and a pointer
that it post-modifies (R333, R334). -/
theorem test_ill_formed_moves :
    [Instr.expRegA .a0 .p, .expRegSv .pc, .movRegReg .r1 .r1, .movRegReg .r1 .a0, .movRegReg .r1 .a1, .movRegReg .r1 .p,
     .movRegInd .p .r1 .none, .movRegInd .r1 .r1 .inc, .movIndReg .r2 .r2 .dec].all (fun i => !i.wellFormed) = true := by
  decide +kernel

/-! ### Decoding: words written out from the patterns of R150 to R155 and the field codes of R132 to R149 -/

/-- The words decode to the instruction. -/
def decodesTo (x : Nat × Nat × Instr) : Bool :=
  match decode (BitVec.ofNat 16 x.1) (BitVec.ofNat 16 x.2.1) with
  | .ok i => i == x.2.2
  | .error _ => false

theorem test_decode_move_1 : [
    (0x8977, 0x0000, .movrIndPart .b1 .r2 .step), (0x585C, 0x0000, .movRegReg .r2 .a0h),
    (0xDE90, 0x0000, .movAccAcc .a1 .b0), (0x5EED, 0x0000, .movRegB .b1 .sp), (0x5E91, 0x0000, .movRegMixp .b1h),
    (0x1A9B, 0x0000, .movRegInd .ext0 .r3 .step), (0x47CF, 0x0000, .movMixpReg .cfgj),
    (0xD4B2, 0x0000, .movIcrAcc .b1), (0xD4B3, 0x0000, .movXAcc .b1), (0x1E0D, 0x0000, .movIndReg .b0h .r5 .inc),
    (0x98CD, 0x0000, .movIndB .b0 .r5 .inc), (0x47F2, 0x0000, .movSpReg .b0l),
    (0x26C5, 0x0000, .movRnDirect .r3 0xC5), (0x38B2, 0x0000, .movPartDirect .a0l 0xB2),
    (0x6CF3, 0x0000, .movDirectRn .r3 0xF3), (0x7967, 0x0000, .movDirectAcc .a1 0x67),
    (0x7ABA, 0x0000, .movDirectPart .a1l 0xBA), (0x758F, 0x0000, .movDirectHighEu .a1 0x8F),
    (0x6D43, 0x0000, .movDirectSv 0x43), (0x7D2E, 0x0000, .movSvDirect 0x2E),
    (0xD4B8, 0x44E6, .movDirLongA .a0 0x44E6), (0xD5BC, 0x6D5D, .movLowDirLong .a1 0x6D5D),
    (0x5E17, 0xBBF5, .movLongReg .ext3 0xBBF5), (0x5F20, 0xA902, .movLongB .b1 0xA902),
    (0x212D, 0x0000, .movShortLow .a0 0x2D), (0x35DF, 0x0000, .movShortHigh .a1 0xDF),
    (0x275C, 0x0000, .movShortRn .r1 0x5C), (0x395A, 0x0000, .movShortExt .ext2 0x5A),
    (0x0537, 0x0000, .movShortSv 0x37), (0x4FD5, 0x0000, .movRegIcr .ext1)].all decodesTo = true := by decide +kernel

theorem test_decode_move_2 : [
    (0x4F9E, 0x0000, .movImmIcr 0x1E), (0xD981, 0x0000, .movIdx7A .a1 0x1),
    (0xDCE6, 0x0000, .movLowIdx7 .a0 0x66), (0xD598, 0x2D4A, .movIdx16A .a1 0x2D4A),
    (0xD49C, 0xC9B5, .movLowIdx16 .a0 0xC9B5), (0x0078, 0x0000, .movpLowReg .a1 .a0),
    (0x076C, 0x0000, .movpIndInd .r3 .dec .r4 .inc), (0x0156, 0x0000, .movsReg .a0 .ext2),
    (0x01ED, 0x0000, .movsInd .a1 .r5 .inc), (0x6B8D, 0x0000, .movsDirect .b1 0x8D),
    (0x48E1, 0x0000, .movsi .r4 .a1 0x1), (0x9DD1, 0x0000, .movrReg .a1 .b1h),
    (0x9CFD, 0x0000, .movrInd .a0 .r5 .step), (0x5E5C, 0x0000, .pushReg .a0h), (0x5F40, 0x0CE2, .pushLong 0x0CE2),
    (0x5E7E, 0x0000, .popReg .lc), (0x498B, 0x0000, .swap .b0a1b1), (0x4B8E, 0x0000, .banke 0xE),
    (0x5FF6, 0x0000, .movd .r2 .dec .r5 .step), (0xD298, 0x0000, .movB0lDvm), (0xD698, 0x0000, .movB1lDvm),
    (0xDA98, 0x0000, .movA0lDvm), (0xDE98, 0x0000, .movA1lDvm), (0xD2D8, 0x0000, .movB0lX),
    (0xD6D8, 0x0000, .movB1lX), (0xDAD8, 0x0000, .movA0lX), (0xDED8, 0x0000, .movA1lX),
    (0xD490, 0x0000, .movRepcB0), (0xD4B0, 0x0000, .movRepcB1), (0xD4D0, 0x0000, .movRepcA0)].all decodesTo = true := by decide +kernel

theorem test_decode_move_3 : [
    (0xD4F0, 0x0000, .movRepcA1), (0xD491, 0x0000, .movDvmB0), (0xD4B1, 0x0000, .movDvmB1),
    (0xD4D1, 0x0000, .movDvmA0), (0xD4F1, 0x0000, .movDvmA1)].all decodesTo = true := by decide +kernel

theorem test_decode_alu_1 : [
    (0xA01C, 0x0000, .orDirect .a0 0x1C), (0x819C, 0x0000, .orInd .a1 .r4 .step),
    (0x80A9, 0x0000, .orReg .a0 .st1), (0xA3CF, 0x0000, .andDirect .a1 0xCF),
    (0x8289, 0x0000, .andInd .a0 .r1 .inc), (0x83B2, 0x0000, .andReg .a1 .b0l),
    (0xA4C4, 0x0000, .xorDirect .a0 0xC4), (0x858D, 0x0000, .xorInd .a1 .r5 .inc),
    (0x84BC, 0x0000, .xorReg .a0 .a0h), (0xA769, 0x0000, .addDirect .a1 0x69),
    (0x8692, 0x0000, .addInd .a0 .r2 .dec), (0x87BB, 0x0000, .addReg .a1 .a1l),
    (0xACE6, 0x0000, .cmpDirect .a0 0xE6), (0x8D9A, 0x0000, .cmpInd .a1 .r2 .step),
    (0x8CA9, 0x0000, .cmpReg .a0 .st1), (0xAF7E, 0x0000, .subDirect .a1 0x7E),
    (0x8E94, 0x0000, .subInd .a0 .r4 .dec), (0x8FAB, 0x0000, .subReg .a1 .p),
    (0xB3B9, 0x0000, .addhDirect .a1 0xB9), (0x928C, 0x0000, .addhInd .a0 .r4 .inc),
    (0x93AA, 0x0000, .addhReg .a1 .st2), (0xB4F5, 0x0000, .addlDirect .a0 0xF5),
    (0x959C, 0x0000, .addlInd .a1 .r4 .step), (0x94B0, 0x0000, .addlReg .a0 .b0h),
    (0xB73F, 0x0000, .subhDirect .a1 0x3F), (0x968D, 0x0000, .subhInd .a0 .r5 .inc),
    (0x97B4, 0x0000, .subhReg .a1 .ext0), (0xB8C4, 0x0000, .sublDirect .a0 0xC4),
    (0x9994, 0x0000, .sublInd .a1 .r4 .dec), (0x98AE, 0x0000, .sublReg .a0 .cfgi)].all decodesTo = true := by decide +kernel

theorem test_decode_alu_2 : [
    (0xBFAC, 0x0000, .cmpuDirect .a1 0xAC), (0x9E8C, 0x0000, .cmpuInd .a0 .r4 .inc),
    (0x9FBF, 0x0000, .cmpuReg .a1 .sv), (0xC0D4, 0x0000, .orShort .a0 0xD4), (0x81C0, 0xCAC0, .orLong .a1 0xCAC0),
    (0x4063, 0x0000, .orIdx7 .a0 0x63), (0xD5D8, 0x7C02, .orIdx16 .a1 0x7C02),
    (0xD4F8, 0x4453, .orDirLong .a0 0x4453), (0xC3B3, 0x0000, .andShort .a1 0xB3),
    (0x82C0, 0x026A, .andLong .a0 0x026A), (0x430F, 0x0000, .andIdx7 .a1 0xF),
    (0xD4D9, 0x96D5, .andIdx16 .a0 0x96D5), (0xD5F9, 0x5F51, .andDirLong .a1 0x5F51),
    (0xC411, 0x0000, .xorShort .a0 0x11), (0x85C0, 0xEA0E, .xorLong .a1 0xEA0E),
    (0x4445, 0x0000, .xorIdx7 .a0 0x45), (0xD5DA, 0xAC97, .xorIdx16 .a1 0xAC97),
    (0xD4FA, 0xD4A5, .xorDirLong .a0 0xD4A5), (0xC75A, 0x0000, .addShort .a1 0x5A),
    (0x86C0, 0x8151, .addLong .a0 0x8151), (0x4741, 0x0000, .addIdx7 .a1 0x41),
    (0xD4DB, 0x6932, .addIdx16 .a0 0x6932), (0xD5FB, 0xAF10, .addDirLong .a1 0xAF10),
    (0xCC63, 0x0000, .cmpShort .a0 0x63), (0x8DC0, 0xE6CA, .cmpLong .a1 0xE6CA),
    (0x4C04, 0x0000, .cmpIdx7 .a0 0x4), (0xD5DE, 0x4C0C, .cmpIdx16 .a1 0x4C0C),
    (0xD4FE, 0x9CA7, .cmpDirLong .a0 0x9CA7), (0xCF6F, 0x0000, .subShort .a1 0x6F),
    (0x8EC0, 0xE727, .subLong .a0 0xE727)].all decodesTo = true := by decide +kernel

theorem test_decode_alu_3 : [
    (0x4F6A, 0x0000, .subIdx7 .a1 0x6A), (0xD4DF, 0x368B, .subIdx16 .a0 0x368B),
    (0xD5FF, 0x5D2C, .subDirLong .a1 0x5D2C), (0x6708, 0x0000, .shrA .a0 .cSet),
    (0x7712, 0x0000, .shr4A .a1 .neq), (0x6727, 0x0000, .shlA .a0 .nn), (0x7739, 0x0000, .shl4A .a1 .vSet),
    (0x6742, 0x0000, .rorA .a0 .neq), (0x7754, 0x0000, .rolA .a1 .ge), (0x676B, 0x0000, .clrA .a0 .lSet),
    (0x778F, 0x0000, .notA .a1 .iu1), (0x6793, 0x0000, .negA .a0 .gt), (0x77AF, 0x0000, .rndA .a1 .iu1),
    (0x67B6, 0x0000, .pacrA .a0 .le), (0x77C5, 0x0000, .clrrA .a1 .lt), (0x67D2, 0x0000, .incA .a0 .neq),
    (0x77E7, 0x0000, .decA .a1 .nn), (0x67F7, 0x0000, .copyA .a0 .nn), (0x95DC, 0x0000, .norm .a1 .r4 .step),
    (0x0E4C, 0x0000, .divs .a0 0x4C), (0x86FD, 0xF8AB, .addvInd .r5 .step 0xF8AB),
    (0x87F5, 0xFAB3, .addvReg .ext1 0xFAB3), (0xE730, 0xF2A5, .addvDirect 0x30 0xF2A5),
    (0x8CFB, 0x7C57, .cmpvInd .r3 .step 0x7C57), (0x8DFC, 0x78E1, .cmpvReg .a0h 0x78E1),
    (0xEDC9, 0x7F12, .cmpvDirect 0xC9 0x7F12), (0x8EEA, 0xF8BA, .subvInd .r2 .inc 0xF8BA),
    (0x8FEF, 0x9143, .subvReg .cfgj 0x9143), (0xEFBE, 0x7EA1, .subvDirect 0xBE 0x7EA1),
    (0x8378, 0x0000, .maxd .gt .a1 .step)].all decodesTo = true := by decide +kernel

theorem test_decode_alu_4 : [
    (0x8478, 0x0000, .max .ge .a0 .step), (0x8B70, 0x0000, .min .lt .a1 .dec), (0x49C0, 0x0000, .limA0),
    (0x49D0, 0x0000, .limA0A1), (0x49E0, 0x0000, .limA1A0), (0x49F0, 0x0000, .limA1)].all decodesTo = true := by decide +kernel

theorem test_decode_bit_1 : [
    (0xA8E8, 0x0000, .tst0Direct .a0 0xE8), (0x8989, 0x0000, .tst0Ind .a1 .r1 .inc),
    (0x88B0, 0x0000, .tst0Reg .a0 .b0h), (0xAB2E, 0x0000, .tst1Direct .a1 0x2E),
    (0x8A94, 0x0000, .tst1Ind .a0 .r4 .dec), (0x8BB0, 0x0000, .tst1Reg .a1 .b0h),
    (0x80FB, 0x15B6, .setInd .r3 .step 0x15B6), (0x81F0, 0x6A05, .setReg .b0h 0x6A05),
    (0xE12D, 0x68DE, .setDirect 0x2D 0x68DE), (0x82FC, 0xDB20, .rstInd .r4 .step 0xDB20),
    (0x83E9, 0x0836, .rstReg .st1 0x0836), (0xE319, 0x9E0B, .rstDirect 0x19 0x9E0B),
    (0x84EB, 0xB34D, .chngInd .r3 .inc 0xB34D), (0x85F3, 0xF86A, .chngReg .b1l 0xF86A),
    (0xE562, 0xDD98, .chngDirect 0x62 0xDD98), (0x88F5, 0x18F0, .tst0LongInd .r5 .dec 0x18F0),
    (0x89ED, 0xFB79, .tst0LongReg .sp 0xFB79), (0xE91A, 0x8769, .tst0LongDirect 0x1A 0x8769),
    (0x8AFC, 0x3880, .tst1LongInd .r4 .step 0x3880), (0x8BFB, 0xA518, .tst1LongReg .a1l 0xA518),
    (0xEB28, 0x1BC1, .tst1LongDirect 0x28 0x1BC1), (0x913A, 0x0000, .tstbInd 0x1 .r2 .step),
    (0x9D0F, 0x0000, .tstbReg 0xD .cfgj), (0xF162, 0x0000, .tstbDirect 0x1 0x62),
    (0xDEC4, 0x0000, .shfc .a1 .a0 .ge), (0x9F6D, 0x0000, .shfi .a1 .a0 0x2D), (0x6F02, 0x0000, .shrB .b0 .neq),
    (0x7F18, 0x0000, .shr4B .b1 .cSet), (0x6F27, 0x0000, .shlB .b0 .nn), (0x7F36, 0x0000, .shl4B .b1 .le)].all decodesTo = true := by decide +kernel

theorem test_decode_bit_2 : [
    (0x6F45, 0x0000, .rorB .b0 .lt), (0x7F55, 0x0000, .rolB .b1 .lt), (0x6F6E, 0x0000, .clrB .b0 .iu0),
    (0x994D, 0x0000, .expIndA .a1 .r5 .inc), (0x9059, 0x0000, .expRegA .a0 .a1),
    (0x9C4D, 0x0000, .expIndSv .r5 .inc), (0x9456, 0x0000, .expRegSv .ext2), (0x9060, 0x0000, .expB0A0),
    (0x9061, 0x0000, .expB1A0), (0x9160, 0x0000, .expB0A1), (0x9161, 0x0000, .expB1A1),
    (0x9460, 0x0000, .expB0Sv), (0x9461, 0x0000, .expB1Sv)].all decodesTo = true := by decide +kernel

theorem test_decode_multiply_1 : [
    (0xB020, 0x0000, .msuYDirect .a0 0x20), (0x919A, 0x0000, .msuYInd .a1 .r2 .step),
    (0x90BA, 0x0000, .msuYReg .a0 .a0l), (0xBA70, 0x0000, .sqrDirect 0x70), (0x9A9B, 0x0000, .sqrInd .r3 .step),
    (0x9AAC, 0x0000, .sqrReg .pc), (0xBCEF, 0x0000, .sqraDirect .a0 0xEF),
    (0x9D95, 0x0000, .sqraInd .a1 .r5 .dec), (0x9CAC, 0x0000, .sqraReg .a0 .pc),
    (0x802A, 0x0000, .mpyYInd .r2 .inc), (0x8056, 0x0000, .mpyYReg .ext2),
    (0xD057, 0x0000, .mpyDual .r5 .dec .r3 .dec), (0x801D, 0x18F0, .mpyLong .r5 .step 0x18F0),
    (0x812C, 0x0000, .mpysuYInd .r4 .inc), (0x815C, 0x0000, .mpysuYReg .a0h),
    (0xD12F, 0x0000, .mpysuDual .r5 .inc .r3 .inc), (0x8112, 0xF146, .mpysuLong .r2 .dec 0xF146),
    (0x823C, 0x0000, .macYInd .a0 .r4 .step), (0x8A5F, 0x0000, .macYReg .a1 .sv),
    (0xD23D, 0x0000, .macDual .a0 .r5 .inc .r1 .step), (0x8A19, 0x38FE, .macLong .a1 .r1 .step 0x38FE),
    (0x833A, 0x0000, .macusYInd .a0 .r2 .step), (0x8B55, 0x0000, .macusYReg .a1 .ext1),
    (0xD337, 0x0000, .macusDual .a0 .r5 .inc .r3 .dec), (0x8B09, 0x05FB, .macusLong .a1 .r1 .inc 0x05FB),
    (0x843C, 0x0000, .maaYInd .a0 .r4 .step), (0x8C50, 0x0000, .maaYReg .a1 .b0h),
    (0xD42D, 0x0000, .maaDual .a0 .r5 .inc .r1 .inc), (0x8C1B, 0xCFE4, .maaLong .a1 .r3 .step 0xCFE4),
    (0x8533, 0x0000, .macuuYInd .a0 .r3 .dec)].all decodesTo = true := by decide +kernel

theorem test_decode_multiply_2 : [
    (0x8D56, 0x0000, .macuuYReg .a1 .ext2), (0xD555, 0x0000, .macuuDual .a0 .r5 .dec .r1 .dec),
    (0x8D12, 0x1BAA, .macuuLong .a1 .r2 .dec 0x1BAA), (0x8639, 0x0000, .macsuYInd .a0 .r1 .step),
    (0x8E50, 0x0000, .macsuYReg .a1 .b0h), (0xD655, 0x0000, .macsuDual .a0 .r5 .dec .r1 .dec),
    (0x8E0A, 0xFC4D, .macsuLong .a1 .r2 .inc 0xFC4D), (0x8731, 0x0000, .maasuYInd .a0 .r1 .dec),
    (0x8F5B, 0x0000, .maasuYReg .a1 .a1l), (0xD74D, 0x0000, .maasuDual .a0 .r5 .dec .r1 .inc),
    (0x8F09, 0xEBA3, .maasuLong .a1 .r1 .inc 0xEBA3), (0xE060, 0x0000, .mpyYDirect 0x60),
    (0xEA6E, 0x0000, .macYDirect .a1 0x6E), (0xE419, 0x0000, .maaYDirect .a0 0x19),
    (0xEE23, 0x0000, .macsuYDirect .a1 0x23), (0x08F1, 0x0000, .mpyi 0xF1),
    (0x91D4, 0x6AD4, .msuLong .a1 .r4 .dec 0x6AD4), (0xD0D6, 0x0000, .msuDual .a0 .r5 .dec .r2 .dec)].all decodesTo = true := by decide +kernel

theorem test_decode_loop : [
    (0x0D12, 0x0000, .repReg .b0l), (0x0C64, 0x0000, .repShort 0x64), (0x5C69, 0x58F9, .bkrepShort 0x69 0x58F9),
    (0x5D1B, 0x97B5, .bkrepReg .a1l 0x97B5), (0xD3C0, 0x0000, .breakLoop)].all decodesTo = true := by decide +kernel

theorem test_decode_branch : [
    (0x4187, 0xC394, .br .nn 0xC394), (0x5286, 0x0000, .brr 0x28 .le), (0x41C5, 0xD301, .call .lt 0xD301),
    (0x16FC, 0x0000, .callr 0x6F .nr), (0x458E, 0x0000, .ret .iu0), (0x45DE, 0x0000, .reti true .iu0),
    (0x0930, 0x0000, .rets 0x30), (0xD480, 0x0000, .callaA0), (0xD580, 0x0000, .callaA1), (0xD780, 0x0000, .retd),
    (0xD7C0, 0x0000, .retid)].all decodesTo = true := by decide +kernel

theorem test_decode_control : [
    (0x00B1, 0x0000, .modr true .r1 .dec), (0x047F, 0x0000, .loadPage 0x7F), (0x03D8, 0x0000, .loadModi 0x1D8),
    (0x0B04, 0x0000, .loadModj 0x104), (0xDBE9, 0x0000, .loadStepi 0x69), (0xDF89, 0x0000, .loadStepj 0x9),
    (0x4D83, 0x0000, .loadPs 0x3), (0xD380, 0x0000, .cntxS), (0xD390, 0x0000, .cntxR), (0x0000, 0x0000, .nop),
    (0x4380, 0x0000, .eint), (0x43C0, 0x0000, .dint), (0x0020, 0x0000, .trap)].all decodesTo = true := by decide +kernel

/-- Ignored bits are read either way (R130); `movr (rN), abXh` goes before `min` (R157). -/
theorem test_decode_ignored_bits :
    [(0x001F, 0, Instr.nop), (0x5F7F, 0x1234, .pushLong 0x1234), (0x8C67, 0, .min .le .a0 .none),
     (0x8C63, 0, .min .le .a0 .none), (0x8867, 0, .movrIndPart .b0 .r0 .step)].all decodesTo = true := by decide +kernel

/-! ### One-step vectors of 95_test_vectors.md -/

/-- The state that the vectors name by its parts. -/
inductive Part where
  | a0 | a1 | b0 | b1 | x | y | p | pu | sv | r0 | r1 | r2 | r3 | r4 | rb | sp | cfgi | r0b | r1b | cfgib | mixp | page | ps | s
  | sat | ie | im0 | im1 | modulo | flags | bc | lp | ics | nmic | repc | dvm | ext2 | inNmi | inTrap | pc
  | data (a : Word) | prog (a : Word)

/-- The state with one part given a value; flags in the order Z M N V C E L R. -/
def withPart (s : State) (q : Part × Nat) : State :=
  let v := q.2
  let w := BitVec.ofNat 16 v
  let b := v != 0
  match q.1 with
  | .a0 => { s with accs := { s.accs with a0 := BitVec.ofNat 36 v } }
  | .a1 => { s with accs := { s.accs with a1 := BitVec.ofNat 36 v } }
  | .b0 => { s with accs := { s.accs with b0 := BitVec.ofNat 36 v } }
  | .b1 => { s with accs := { s.accs with b1 := BitVec.ofNat 36 v } }
  | .x => { s with mul := { s.mul with x := w } }
  | .y => { s with mul := { s.mul with y := w } }
  | .p => { s with mul := { s.mul with p := BitVec.ofNat 32 v } }
  | .pu => { s with mul := { s.mul with pu := b } }
  | .sv => { s with sv := w }
  | .r0 => { s with dau := { s.dau with r0 := w } }
  | .r1 => { s with dau := { s.dau with r1 := w } }
  | .r2 => { s with dau := { s.dau with r2 := w } }
  | .r3 => { s with dau := { s.dau with r3 := w } }
  | .r4 => { s with dau := { s.dau with r4 := w } }
  | .rb => { s with dau := { s.dau with rb := w } }
  | .sp => { s with dau := { s.dau with sp := w } }
  | .cfgi => { s with dau := { s.dau with cfgi := w } }
  | .r0b => { s with dau := { s.dau with r0b := w } }
  | .r1b => { s with dau := { s.dau with r1b := w } }
  | .cfgib => { s with dau := { s.dau with cfgib := w } }
  | .mixp => { s with dau := { s.dau with mixp := w } }
  | .page => { s with stat := { s.stat with page := BitVec.ofNat 8 v } }
  | .ps => { s with stat := { s.stat with ps := BitVec.ofNat 2 v } }
  | .s => { s with stat := { s.stat with s := b } }
  | .sat => { s with stat := { s.stat with sat := b } }
  | .ie => { s with stat := { s.stat with ie := b } }
  | .im0 => { s with stat := { s.stat with im0 := b } }
  | .im1 => { s with stat := { s.stat with im1 := b } }
  | .modulo => { s with stat := { s.stat with modulo := BitVec.ofNat 6 v } }
  | .flags => { s with flags := { z := v.testBit 7, m := v.testBit 6, n := v.testBit 5, v := v.testBit 4, c := v.testBit 3,
                                  e := v.testBit 2, l := v.testBit 1, r := v.testBit 0 } }
  | .bc => { s with icr := { s.icr with bc := BitVec.ofNat 3 v } }
  | .lp => { s with icr := { s.icr with lp := b } }
  | .ics => { s with icr := { s.icr with ic2 := v.testBit 2, ic1 := v.testBit 1, ic0 := v.testBit 0 } }
  | .nmic => { s with icr := { s.icr with nmic := b } }
  | .repc => { s with loops := { s.loops with repc := w } }
  | .dvm => { s with dvm := w }
  | .ext2 => { s with ext := { s.ext with ext2 := w } }
  | .inNmi => { s with svc := { s.svc with inNmi := b } }
  | .inTrap => { s with svc := { s.svc with inTrap := b } }
  | .pc => { s with pc := w }
  | .data a => { s with dmem := Memory.setWord s.dmem a w }
  | .prog a => { s with pmem := Memory.setWord s.pmem a w }

/-- The state with the listed parts. -/
def withParts (s : State) (l : List (Part × Nat)) : State := l.foldl withPart s

/-- What the step records beside the architectural registers is left out of the comparison. -/
def plain (s : State) : State :=
  { s with svc := { State.reset.svc with inNmi := s.svc.inNmi, inTrap := s.svc.inTrap }, out := State.reset.out, freeCtr := 0 }

/-- One step from the words at an address and the parts `before` changes the parts `after` and nothing else. -/
def vector (at_ : Nat) (words : List Nat) (before after : List (Part × Nat)) : Bool :=
  let place := (List.range words.length).map fun k => (Part.prog (BitVec.ofNat 16 (at_ + k)), words.getD k 0)
  let s := withPart (withParts State.reset (place ++ before)) (.pc, at_)
  match step s with
  | .next t => plain t == plain (withParts s after)
  | .fault _ | .refused _ => false

/-- `add r1, a0` (95_test_vectors.md T1). -/
theorem test_add_t1 : vector 0x0100 [0x86A1]
    [(.a0, 0x1001), (.r1, 0x7)]
    [(.a0, 0x1008), (.pc, 0x101), (.flags, 0b00000000)] = true := by decide +kernel

/-- `add #255, a0` (95_test_vectors.md T2). -/
theorem test_add_t2 : vector 0x0100 [0xC6FF]
    [(.a0, 0x3E9)]
    [(.a0, 0x4E8), (.pc, 0x101), (.flags, 0b00000000)] = true := by decide +kernel

/-- `add ##0xffff, a1` (95_test_vectors.md T3). -/
theorem test_add_t3 : vector 0x0100 [0x87C0, 0xFFFF]
    [(.a1, 0x20)]
    [(.a1, 0x1F), (.pc, 0x102), (.flags, 0b00001000)] = true := by decide +kernel

/-- `add (r1)+s, a0` (95_test_vectors.md T4). -/
theorem test_add_t4 : vector 0x0100 [0x8699]
    [(.a0, 0x1001), (.r1, 0x7), (.cfgi, 0x2), (.data 0x0007, 0x100)]
    [(.a0, 0x1101), (.r1, 0x9), (.pc, 0x101), (.flags, 0b00000000)] = true := by decide +kernel

/-- `add [2], a1` (95_test_vectors.md T5). -/
theorem test_add_t5 : vector 0x0100 [0xA702]
    [(.a1, 0xFFFFFFFFF), (.page, 0x1), (.ps, 0), (.data 0x0102, 0x1)]
    [(.a1, 0x0), (.pc, 0x101), (.flags, 0b10101000)] = true := by decide +kernel

/-- `mov y, (r3)+s` (95_test_vectors.md T422). -/
theorem test_mov_t422 : vector 0x0100 [0x18FB]
    [(.y, 0xAAAA), (.r3, 0x500), (.cfgi, 0x7F)]
    [(.r3, 0x4FF), (.data 0x0500, 0xAAAA), (.pc, 0x101), (.flags, 0b00000000)] = true := by decide +kernel

/-- `mov (r0), r0` (95_test_vectors.md T31). -/
theorem test_mov_t31 : vector 0x0100 [0x1C00]
    [(.r0, 0x20), (.data 0x0020, 0x3E8)]
    [(.r0, 0x3E8), (.pc, 0x101)] = true := by decide +kernel

/-- `mov r0, p` (95_test_vectors.md T421). -/
theorem test_mov_t421 : vector 0x0100 [0x5960]
    [(.p, 0x12345678), (.pu, 1), (.r0, 0x8000)]
    [(.p, 0x80005678), (.pu, 0), (.pc, 0x101), (.flags, 0b00000000)] = true := by decide +kernel

/-- `mov a1, b0` (95_test_vectors.md T408). -/
theorem test_mov_t408 : vector 0x0100 [0xDE90]
    [(.a1, 0x923456789)]
    [(.b0, 0x923456789), (.pc, 0x101), (.flags, 0b01000100)] = true := by decide +kernel

/-- `mov [0x10], a0h, eu` (95_test_vectors.md T409). -/
theorem test_mov_t409 : vector 0x0100 [0x6510]
    [(.a0, 0xF12345678), (.page, 0x0), (.data 0x0010, 0x8000)]
    [(.a0, 0xF80000000), (.pc, 0x101), (.flags, 0b01100000)] = true := by decide +kernel

/-- `mov a1h, [0x10]` (95_test_vectors.md T411). -/
theorem test_mov_t411 : vector 0x0100 [0x3E10]
    [(.a1, 0x7FFFF0000), (.page, 0x0)]
    [(.data 0x0010, 0x7FFF), (.pc, 0x101), (.flags, 0b00000010)] = true := by decide +kernel

/-- `mov a1l, (rb+##0xFFFF)` (95_test_vectors.md T415). -/
theorem test_mov_t415 : vector 0x0100 [0xD59C, 0xFFFF]
    [(.a1, 0x1234), (.rb, 0x0)]
    [(.data 0xFFFF, 0x1234), (.pc, 0x102), (.flags, 0b00000000)] = true := by decide +kernel

/-- `mov #-1, a0h` (95_test_vectors.md T417). -/
theorem test_mov_t417 : vector 0x0100 [0x25FF]
    [(.a0, 0xABCD)]
    [(.a0, 0xFFFFF0000), (.pc, 0x101), (.flags, 0b01000000)] = true := by decide +kernel

/-- `mov repc, a1` (95_test_vectors.md T427). -/
theorem test_mov_t427 : vector 0x0100 [0xD4F0]
    [(.repc, 0x7)]
    [(.a1, 0x7), (.pc, 0x101), (.flags, 0b00000000)] = true := by decide +kernel

/-- `mov #5, ext2` (95_test_vectors.md T429). -/
theorem test_mov_t429 : vector 0x0100 [0x3905]
    []
    [(.ext2, 0x5), (.pc, 0x101), (.flags, 0b00000000)] = true := by decide +kernel

/-- `sub #1, a0` (95_test_vectors.md T106). -/
theorem test_sub_t106 : vector 0x0100 [0xCE01]
    [(.a0, 0x0)]
    [(.a0, 0xFFFFFFFFF), (.pc, 0x101), (.flags, 0b01001000)] = true := by decide +kernel

/-- `cmp r0, a0` (95_test_vectors.md T109). -/
theorem test_cmp_t109 : vector 0x0100 [0x8CA0]
    [(.a0, 0x3), (.r0, 0xFFFF)]
    [(.pc, 0x101), (.flags, 0b00001000)] = true := by decide +kernel

/-- `cmpu r0, a0` (95_test_vectors.md T110). -/
theorem test_cmpu_t110 : vector 0x0100 [0x9EA0]
    [(.a0, 0x3), (.r0, 0xFFFF)]
    [(.pc, 0x101), (.flags, 0b01001000)] = true := by decide +kernel

/-- `or ##0x8001, a0` (95_test_vectors.md T111). -/
theorem test_or_t111 : vector 0x0100 [0x80C0, 0x8001]
    [(.a0, 0xF00000000)]
    [(.a0, 0xF00008001), (.pc, 0x102), (.flags, 0b01000100)] = true := by decide +kernel

/-- `and r1, a0` (95_test_vectors.md T112). -/
theorem test_and_t112 : vector 0x0100 [0x82A1]
    [(.a0, 0xFFFFFFFFF), (.r1, 0x8001)]
    [(.a0, 0x8001), (.pc, 0x101), (.flags, 0b00000000)] = true := by decide +kernel

/-- `xor a1, a0` (95_test_vectors.md T115). -/
theorem test_xor_t115 : vector 0x0100 [0x84B9]
    [(.a0, 0xAAAAAAAAA), (.a1, 0xFFFFFFFFF)]
    [(.a0, 0x555555555), (.pc, 0x101), (.flags, 0b00000100)] = true := by decide +kernel

/-- `addh r0, a0` (95_test_vectors.md T116). -/
theorem test_addh_t116 : vector 0x0100 [0x92A0]
    [(.a0, 0xFFFF), (.r0, 0x7FFF)]
    [(.a0, 0x7FFFFFFF), (.pc, 0x101), (.flags, 0b00100000)] = true := by decide +kernel

/-- `subh [0x10], a1` (95_test_vectors.md T117). -/
theorem test_subh_t117 : vector 0x0100 [0xB710]
    [(.a1, 0x10005), (.page, 0x2), (.data 0x0210, 0x1)]
    [(.a1, 0x5), (.pc, 0x101), (.flags, 0b00000000)] = true := by decide +kernel

/-- `addl r0, a0` (95_test_vectors.md T118). -/
theorem test_addl_t118 : vector 0x0100 [0x94A0]
    [(.a0, 0xFFFF), (.r0, 0xFFFF)]
    [(.a0, 0x1FFFE), (.pc, 0x101), (.flags, 0b00000000)] = true := by decide +kernel

/-- `subl (r2)+, a0` (95_test_vectors.md T119). -/
theorem test_subl_t119 : vector 0x0100 [0x988A]
    [(.a0, 0x10000), (.r2, 0x300), (.data 0x0300, 0xFFFF)]
    [(.a0, 0x1), (.r2, 0x301), (.pc, 0x101), (.flags, 0b00000000)] = true := by decide +kernel

/-- `addv ##0x0001, (r0)` (95_test_vectors.md T120). -/
theorem test_addv_t120 : vector 0x0100 [0x86E0, 0x0001]
    [(.r0, 0x400), (.data 0x0400, 0xFFFF)]
    [(.data 0x0400, 0x0), (.pc, 0x102), (.flags, 0b10101000)] = true := by decide +kernel

/-- `subv ##0x0001, r3` (95_test_vectors.md T122). -/
theorem test_subv_t122 : vector 0x0100 [0x8FE3, 0x0001]
    [(.r3, 0x0)]
    [(.r3, 0xFFFF), (.pc, 0x102), (.flags, 0b01001000)] = true := by decide +kernel

/-- `cmpv ##0x1234, [0x20]` (95_test_vectors.md T123). -/
theorem test_cmpv_t123 : vector 0x0100 [0xED20, 0x1234]
    [(.page, 0x1), (.data 0x0120, 0x1234)]
    [(.pc, 0x102), (.flags, 0b10100000)] = true := by decide +kernel

/-- `shr a0` (95_test_vectors.md T130). -/
theorem test_shr_t130 : vector 0x0100 [0x6700]
    [(.a0, 0x800000001), (.s, 0)]
    [(.a0, 0xC00000000), (.pc, 0x101), (.flags, 0b01001100)] = true := by decide +kernel

/-- `shr4 a1` (95_test_vectors.md T132). -/
theorem test_shr4_t132 : vector 0x0100 [0x7710]
    [(.a1, 0xF0000000F), (.s, 0)]
    [(.a1, 0xFF0000000), (.pc, 0x101), (.flags, 0b01001000)] = true := by decide +kernel

/-- `shl a0` (95_test_vectors.md T133). -/
theorem test_shl_t133 : vector 0x0100 [0x6720]
    [(.a0, 0x400000000), (.s, 0)]
    [(.a0, 0x800000000), (.pc, 0x101), (.flags, 0b01010110)] = true := by decide +kernel

/-- `shl4 a0` (95_test_vectors.md T135). -/
theorem test_shl4_t135 : vector 0x0100 [0x6730]
    [(.a0, 0xFFFFFFFF), (.s, 0)]
    [(.a0, 0xFFFFFFFF0), (.pc, 0x101), (.flags, 0b01010010)] = true := by decide +kernel

/-- `ror a0` (95_test_vectors.md T136). -/
theorem test_ror_t136 : vector 0x0100 [0x6740]
    [(.a0, 0x1)]
    [(.a0, 0x0), (.pc, 0x101), (.flags, 0b10101000)] = true := by decide +kernel

/-- `rol a1` (95_test_vectors.md T137). -/
theorem test_rol_t137 : vector 0x0100 [0x7750]
    [(.a1, 0x800000000), (.flags, 0b00001000)]
    [(.a1, 0x1), (.pc, 0x101), (.flags, 0b00001000)] = true := by decide +kernel

/-- `clr a0` (95_test_vectors.md T138). -/
theorem test_clr_t138 : vector 0x0100 [0x6760]
    [(.a0, 0x123456789)]
    [(.a0, 0x0), (.pc, 0x101), (.flags, 0b10100000)] = true := by decide +kernel

/-- `not a0` (95_test_vectors.md T139). -/
theorem test_not_t139 : vector 0x0100 [0x6780]
    [(.a0, 0xFF)]
    [(.a0, 0xFFFFFFF00), (.pc, 0x101), (.flags, 0b01000000)] = true := by decide +kernel

/-- `neg a0` (95_test_vectors.md T140). -/
theorem test_neg_t140 : vector 0x0100 [0x6790]
    [(.a0, 0x800000000)]
    [(.a0, 0x800000000), (.pc, 0x101), (.flags, 0b01011110)] = true := by decide +kernel

/-- `rnd a0` (95_test_vectors.md T142). -/
theorem test_rnd_t142 : vector 0x0100 [0x67A0]
    [(.a0, 0x7FFF)]
    [(.a0, 0xFFFF), (.pc, 0x101), (.flags, 0b00000000)] = true := by decide +kernel

/-- `pacr a1` (95_test_vectors.md T144). -/
theorem test_pacr_t144 : vector 0x0100 [0x77B0]
    [(.p, 0x18000), (.pu, 0), (.ps, 0)]
    [(.a1, 0x20000), (.pc, 0x101), (.flags, 0b00000000)] = true := by decide +kernel

/-- `clrr a0` (95_test_vectors.md T145). -/
theorem test_clrr_t145 : vector 0x0100 [0x67C0]
    []
    [(.a0, 0x8000), (.pc, 0x101), (.flags, 0b00000000)] = true := by decide +kernel

/-- `inc a0` (95_test_vectors.md T146). -/
theorem test_inc_t146 : vector 0x0100 [0x67D0]
    [(.a0, 0xFFFFFFFFF)]
    [(.a0, 0x0), (.pc, 0x101), (.flags, 0b10101000)] = true := by decide +kernel

/-- `dec a0` (95_test_vectors.md T147). -/
theorem test_dec_t147 : vector 0x0100 [0x67E0]
    [(.a0, 0x0)]
    [(.a0, 0xFFFFFFFFF), (.pc, 0x101), (.flags, 0b01001000)] = true := by decide +kernel

/-- `copy a0` (95_test_vectors.md T148). -/
theorem test_copy_t148 : vector 0x0100 [0x67F0]
    [(.a1, 0x8F0000000)]
    [(.a0, 0x8F0000000), (.pc, 0x101), (.flags, 0b01000100)] = true := by decide +kernel

/-- `norm a1, (r2)-` (95_test_vectors.md T155). -/
theorem test_norm_t155 : vector 0x0100 [0x95D2]
    [(.a1, 0xC00000001), (.r2, 0x1)]
    [(.a1, 0x800000002), (.r2, 0x0), (.pc, 0x101), (.flags, 0b01001101)] = true := by decide +kernel

/-- `divs [0x00], a0` (95_test_vectors.md T157). -/
theorem test_divs_t157 : vector 0x0100 [0x0E00]
    [(.a0, 0x30000), (.page, 0x0), (.data 0x0000, 0x7)]
    [(.a0, 0x60000), (.pc, 0x101), (.flags, 0b00000000)] = true := by decide +kernel

/-- `max a0, (r0)+, gt` (95_test_vectors.md T160). -/
theorem test_max_t160 : vector 0x0100 [0x8668]
    [(.a0, 0x5), (.a1, 0x9), (.r0, 0x20)]
    [(.a0, 0x9), (.mixp, 0x20), (.r0, 0x21), (.pc, 0x101), (.flags, 0b01000000)] = true := by decide +kernel

/-- `min a1, (r0)-, lt` (95_test_vectors.md T163). -/
theorem test_min_t163 : vector 0x0100 [0x8B70]
    [(.a0, 0xFFFFFFFFF), (.a1, 0x0), (.r0, 0x20)]
    [(.a1, 0xFFFFFFFFF), (.mixp, 0x20), (.r0, 0x1F), (.pc, 0x101), (.flags, 0b01000000)] = true := by decide +kernel

/-- `maxd a0, (r0)+s, gt` (95_test_vectors.md T164). -/
theorem test_maxd_t164 : vector 0x0100 [0x8278]
    [(.a0, 0x10000), (.a1, 0xFFFF00000), (.r0, 0x30), (.cfgi, 0x2), (.data 0x0030, 0x1)]
    [(.r0, 0x32), (.pc, 0x101), (.flags, 0b00000000)] = true := by decide +kernel

/-- `lim a0` (95_test_vectors.md T166). -/
theorem test_lim_t166 : vector 0x0100 [0x49C0]
    [(.a0, 0x123456789)]
    [(.a0, 0x7FFFFFFF), (.pc, 0x101), (.flags, 0b00100010)] = true := by decide +kernel

/-- `mpy y, (r0)+` (95_test_vectors.md T200). -/
theorem test_mpy_t200 : vector 0x0100 [0x8028]
    [(.y, 0x8000), (.r0, 0x10), (.data 0x0010, 0x8000)]
    [(.x, 0x8000), (.p, 0x40000000), (.pu, 0), (.r0, 0x11), (.pc, 0x101)] = true := by decide +kernel

/-- `mpysu y, r1` (95_test_vectors.md T202). -/
theorem test_mpysu_t202 : vector 0x0100 [0x8141]
    [(.y, 0xFFFF), (.r1, 0xFFFF)]
    [(.x, 0xFFFF), (.p, 0xFFFF0001), (.pu, 0), (.pc, 0x101)] = true := by decide +kernel

/-- `mpyi y, #-3` (95_test_vectors.md T205). -/
theorem test_mpyi_t205 : vector 0x0100 [0x08FD]
    [(.y, 0x5)]
    [(.x, 0xFFFD), (.p, 0xFFFFFFF1), (.pu, 0), (.pc, 0x101)] = true := by decide +kernel

/-- `mac y, r1, a0` (95_test_vectors.md T206). -/
theorem test_mac_t206 : vector 0x0100 [0x8241]
    [(.a0, 0x10), (.y, 0x2), (.p, 0x5), (.pu, 0), (.r1, 0x3), (.ps, 0)]
    [(.a0, 0x15), (.x, 0x3), (.p, 0x6), (.pc, 0x101), (.flags, 0b00000000)] = true := by decide +kernel

/-- `macsu y, r1, a1` (95_test_vectors.md T208). -/
theorem test_macsu_t208 : vector 0x0100 [0x8E41]
    [(.a1, 0x0), (.y, 0x8000), (.p, 0x1), (.pu, 0), (.r1, 0x8000), (.ps, 0)]
    [(.a1, 0x1), (.x, 0x8000), (.p, 0xC0000000), (.pc, 0x101), (.flags, 0b00000000)] = true := by decide +kernel

/-- `macus y, r1, a1` (95_test_vectors.md T209). -/
theorem test_macus_t209 : vector 0x0100 [0x8B41]
    [(.a1, 0x0), (.y, 0x8000), (.p, 0x1), (.pu, 0), (.r1, 0x8000), (.ps, 0)]
    [(.a1, 0x1), (.x, 0x8000), (.p, 0xC0000000), (.pc, 0x101), (.flags, 0b00000000)] = true := by decide +kernel

/-- `macuu y, r1, a0` (95_test_vectors.md T210). -/
theorem test_macuu_t210 : vector 0x0100 [0x8541]
    [(.a0, 0x0), (.y, 0xFFFF), (.p, 0x0), (.pu, 0), (.r1, 0xFFFF), (.ps, 0)]
    [(.x, 0xFFFF), (.p, 0xFFFE0001), (.pu, 1), (.pc, 0x101), (.flags, 0b10100000)] = true := by decide +kernel

/-- `maa y, r1, a0` (95_test_vectors.md T213). -/
theorem test_maa_t213 : vector 0x0100 [0x8441]
    [(.a0, 0x1), (.y, 0x1), (.p, 0x80001234), (.pu, 0), (.r1, 0x1), (.ps, 0)]
    [(.a0, 0xFFFFF8001), (.x, 0x1), (.p, 0x1), (.pc, 0x101), (.flags, 0b01000000)] = true := by decide +kernel

/-- `maasu y, r1, a0` (95_test_vectors.md T214). -/
theorem test_maasu_t214 : vector 0x0100 [0x8741]
    [(.a0, 0x0), (.y, 0xFFFF), (.p, 0x7FFF0000), (.pu, 0), (.r1, 0xFFFF), (.ps, 0)]
    [(.a0, 0x7FFF), (.x, 0xFFFF), (.p, 0xFFFF0001), (.pc, 0x101), (.flags, 0b00000000)] = true := by decide +kernel

/-- `msu y, r1, a0` (95_test_vectors.md T215). -/
theorem test_msu_t215 : vector 0x0100 [0x90A1]
    [(.a0, 0x0), (.y, 0x4), (.p, 0x1), (.pu, 0), (.r1, 0x4), (.ps, 0)]
    [(.a0, 0xFFFFFFFFF), (.x, 0x4), (.p, 0x10), (.pc, 0x101), (.flags, 0b01001000)] = true := by decide +kernel

/-- `sqr r1` (95_test_vectors.md T217). -/
theorem test_sqr_t217 : vector 0x0100 [0x9AA1]
    [(.r1, 0xFFFD)]
    [(.x, 0xFFFD), (.y, 0xFFFD), (.p, 0x9), (.pu, 0), (.pc, 0x101)] = true := by decide +kernel

/-- `sqra (r0), a0` (95_test_vectors.md T218). -/
theorem test_sqra_t218 : vector 0x0100 [0x9C80]
    [(.a0, 0x0), (.p, 0x9), (.pu, 0), (.r0, 0x10), (.ps, 0), (.data 0x0010, 0x4000)]
    [(.a0, 0x9), (.x, 0x4000), (.y, 0x4000), (.p, 0x10000000), (.pc, 0x101), (.flags, 0b00000000)] = true := by decide +kernel

/-- `shfi a0, a0, #+4` (95_test_vectors.md T300). -/
theorem test_shfi_t300 : vector 0x0100 [0x9B44]
    [(.a0, 0x1FFFFFFFF), (.s, 0)]
    [(.a0, 0xFFFFFFFF0), (.pc, 0x101), (.flags, 0b01011010)] = true := by decide +kernel

/-- `shfc a0, a0` (95_test_vectors.md T310). -/
theorem test_shfc_t310 : vector 0x0100 [0xDAC0]
    [(.a0, 0x800000001), (.sv, 0x24), (.s, 0)]
    [(.a0, 0x0), (.pc, 0x101), (.flags, 0b10111010)] = true := by decide +kernel

/-- `exp a0, sv` (95_test_vectors.md T320). -/
theorem test_exp_t320 : vector 0x0100 [0x9458]
    [(.a0, 0x0)]
    [(.sv, 0x1F), (.pc, 0x101)] = true := by decide +kernel

/-- `set ##0x8001, (r1)+` (95_test_vectors.md T340). -/
theorem test_set_t340 : vector 0x0100 [0x80E9, 0x8001]
    [(.r1, 0x80), (.data 0x0080, 0x110)]
    [(.r1, 0x81), (.data 0x0080, 0x8111), (.pc, 0x102), (.flags, 0b01000000)] = true := by decide +kernel

/-- `rst ##0x00FF, [0x44]` (95_test_vectors.md T341). -/
theorem test_rst_t341 : vector 0x0100 [0xE344, 0x00FF]
    [(.page, 0x3), (.data 0x0344, 0xFFFF)]
    [(.data 0x0344, 0xFF00), (.pc, 0x102), (.flags, 0b01000000)] = true := by decide +kernel

/-- `chng ##0xFFFF, r2` (95_test_vectors.md T342). -/
theorem test_chng_t342 : vector 0x0100 [0x85E2, 0xFFFF]
    [(.r2, 0xFFFF)]
    [(.r2, 0x0), (.pc, 0x102), (.flags, 0b10000000)] = true := by decide +kernel

/-- `tst0 ##0x00F0, r3` (95_test_vectors.md T346). -/
theorem test_tst0_t346 : vector 0x0100 [0x89E3, 0x00F0]
    [(.r3, 0xFF0F)]
    [(.pc, 0x102), (.flags, 0b10000000)] = true := by decide +kernel

/-- `tst1 ##0x00F0, [0x01]` (95_test_vectors.md T348). -/
theorem test_tst1_t348 : vector 0x0100 [0xEB01, 0x00F0]
    [(.page, 0x0), (.data 0x0001, 0xF0)]
    [(.pc, 0x102), (.flags, 0b10000000)] = true := by decide +kernel

/-- `tstb r0, #12` (95_test_vectors.md T350). -/
theorem test_tstb_t350 : vector 0x0100 [0x9C00]
    [(.r0, 0x1000)]
    [(.pc, 0x101), (.flags, 0b10000000)] = true := by decide +kernel

/-- `push a0h` (95_test_vectors.md T430). -/
theorem test_push_t430 : vector 0x0100 [0x5E5C]
    [(.a0, 0x123456789), (.sp, 0x800), (.sat, 0)]
    [(.sp, 0x7FF), (.data 0x07FF, 0x7FFF), (.pc, 0x101), (.flags, 0b00000010)] = true := by decide +kernel

/-- `pop st0` (95_test_vectors.md T435). -/
theorem test_pop_t435 : vector 0x0100 [0x5E68]
    [(.a0, 0x0), (.sp, 0x7FF), (.data 0x07FF, 0xF803)]
    [(.a0, 0xF00000000), (.sp, 0x800), (.ie, 1), (.im0, 0), (.im1, 0), (.sat, 1), (.pc, 0x101), (.flags, 0b10000000)] = true := by decide +kernel

/-- `swap (a0,b0),(a1,b1)` (95_test_vectors.md T442). -/
theorem test_swap_t442 : vector 0x0100 [0x4984]
    [(.a0, 0xA00000000), (.a1, 0xA11111111), (.b0, 0xB00000000), (.b1, 0xB11111111)]
    [(.a0, 0xB00000000), (.a1, 0xB11111111), (.b0, 0xA00000000), (.b1, 0xA11111111), (.pc, 0x101), (.flags, 0b01000100)] = true := by decide +kernel

/-- `banke r0, cfgi` (95_test_vectors.md T446). -/
theorem test_banke_t446 : vector 0x0100 [0x4B89]
    [(.r0, 0x1), (.r1, 0x5), (.cfgi, 0x3), (.r0b, 0x2), (.r1b, 0x6), (.cfgib, 0x4)]
    [(.r0, 0x2), (.cfgi, 0x4), (.r0b, 0x1), (.cfgib, 0x3), (.pc, 0x101), (.flags, 0b00000000)] = true := by decide +kernel

/-- `movs r0, a0` (95_test_vectors.md T450). -/
theorem test_movs_t450 : vector 0x0100 [0x0140]
    [(.sv, 0x1), (.r0, 0x8000), (.s, 0)]
    [(.a0, 0xFFFFF0000), (.pc, 0x101), (.flags, 0b01001000)] = true := by decide +kernel

/-- `movsi r0, a0, #-16` (95_test_vectors.md T453). -/
theorem test_movsi_t453 : vector 0x0100 [0x40D0]
    [(.r0, 0x8000), (.s, 0)]
    [(.a0, 0xFFFFFFFFF), (.pc, 0x101), (.flags, 0b01001000)] = true := by decide +kernel

/-- `movr r0, a0` (95_test_vectors.md T460). -/
theorem test_movr_t460 : vector 0x0100 [0x9CC0]
    [(.r0, 0x7FFF)]
    [(.a0, 0x7FFF8000), (.pc, 0x101), (.flags, 0b00100000)] = true := by decide +kernel

/-- `movp (a0l), r1` (95_test_vectors.md T470). -/
theorem test_movp_t470 : vector 0x0100 [0x0041]
    [(.a0, 0x200), (.prog 0x0200, 0x1234)]
    [(.r1, 0x1234), (.pc, 0x101), (.flags, 0b00000000)] = true := by decide +kernel

/-- `movd (r0)+, (r4)+` (95_test_vectors.md T472). -/
theorem test_movd_t472 : vector 0x0100 [0x5FA8]
    [(.r0, 0x30), (.r4, 0x300), (.data 0x0030, 0x5678)]
    [(.r0, 0x31), (.r4, 0x301), (.prog 0x0300, 0x5678), (.pc, 0x101), (.flags, 0b00000000)] = true := by decide +kernel

/-- `br 0x0300, eq` (95_test_vectors.md T601). -/
theorem test_br_t601 : vector 0x0100 [0x4181, 0x0300]
    [(.flags, 0b10000000)]
    [(.pc, 0x300), (.flags, 0b10000000)] = true := by decide +kernel

/-- `brr -3` (95_test_vectors.md T603). -/
theorem test_brr_t603 : vector 0x0100 [0x57D0]
    []
    [(.pc, 0xFE), (.flags, 0b00000000)] = true := by decide +kernel

/-- `call 0x0400` (95_test_vectors.md T607). -/
theorem test_call_t607 : vector 0x0100 [0x41C0, 0x0400]
    [(.sp, 0x800)]
    [(.sp, 0x7FF), (.data 0x07FF, 0x102), (.pc, 0x400), (.flags, 0b00000000)] = true := by decide +kernel

/-- `callr -2, neq` (95_test_vectors.md T609). -/
theorem test_callr_t609 : vector 0x0100 [0x17E2]
    [(.sp, 0x800)]
    [(.sp, 0x7FF), (.data 0x07FF, 0x101), (.pc, 0xFF), (.flags, 0b00000000)] = true := by decide +kernel

/-- `calla a1l` (95_test_vectors.md T611). -/
theorem test_calla_t611 : vector 0x0100 [0xD580]
    [(.a1, 0x123450500), (.sp, 0x800)]
    [(.sp, 0x7FF), (.data 0x07FF, 0x101), (.pc, 0x500), (.flags, 0b00000000)] = true := by decide +kernel

/-- `ret` (95_test_vectors.md T612). -/
theorem test_ret_t612 : vector 0x0100 [0x4580]
    [(.sp, 0x7FF), (.data 0x07FF, 0x222)]
    [(.sp, 0x800), (.pc, 0x222), (.flags, 0b00000000)] = true := by decide +kernel

/-- `rets #3` (95_test_vectors.md T614). -/
theorem test_rets_t614 : vector 0x0100 [0x0903]
    [(.sp, 0x7FC), (.data 0x07FC, 0x222)]
    [(.sp, 0x800), (.pc, 0x222), (.flags, 0b00000000)] = true := by decide +kernel

/-- `reti` (95_test_vectors.md T615). -/
theorem test_reti_t615 : vector 0x0100 [0x45C0]
    [(.sp, 0x7FF), (.ie, 0), (.inNmi, 1), (.data 0x07FF, 0x222)]
    [(.sp, 0x800), (.ie, 1), (.inNmi, 0), (.pc, 0x222), (.flags, 0b00000000)] = true := by decide +kernel

/-- `nop` (95_test_vectors.md T700). -/
theorem test_nop_t700 : vector 0x0100 [0x0000]
    []
    [(.pc, 0x101), (.flags, 0b00000000)] = true := by decide +kernel

/-- `modr (r0)+` (95_test_vectors.md T701). -/
theorem test_modr_t701 : vector 0x0100 [0x0088]
    [(.modulo, 0b000000), (.r0, 0xFFFF)]
    [(.r0, 0x0), (.pc, 0x101), (.flags, 0b00000001)] = true := by decide +kernel

/-- `load #0x81, page` (95_test_vectors.md T710). -/
theorem test_load_t710 : vector 0x0100 [0x0481]
    [(.page, 0x0)]
    [(.page, 0x81), (.pc, 0x101), (.flags, 0b00000000)] = true := by decide +kernel

/-- `eint` (95_test_vectors.md T720). -/
theorem test_eint_t720 : vector 0x0100 [0x4380]
    [(.ie, 0)]
    [(.ie, 1), (.pc, 0x101), (.flags, 0b00000000)] = true := by decide +kernel

/-- `dint` (95_test_vectors.md T721). -/
theorem test_dint_t721 : vector 0x0100 [0x43C0]
    [(.ie, 1)]
    [(.ie, 0), (.pc, 0x101), (.flags, 0b00000000)] = true := by decide +kernel

/-- `trap` (95_test_vectors.md T724). -/
theorem test_trap_t724 : vector 0x0100 [0x0020]
    [(.sp, 0x800), (.ie, 1)]
    [(.sp, 0x7FF), (.dvm, 0x101), (.ie, 1), (.inTrap, 1), (.data 0x07FF, 0x101), (.pc, 0x2), (.flags, 0b00000000)] = true := by decide +kernel

/-! ### Loops, delayed returns, the context switch, entries: one step each, from the rules -/

/-- The outcome is a next state with the property. -/
def leaves (o : Out) (q : State → Bool) : Bool :=
  match o with
  | .next t => q t
  | .fault _ | .refused _ => false

/-- The outcome is a next state. -/
def runs (o : Out) : Bool := leaves o fun _ => true

/-- A state with a value in most registers and words at its pointers; sp - 1 is the first address of Zspace, r4 the first of
Yspace, r0 the last before it, sv the largest count. -/
def busy : State :=
  withParts State.reset
    [(.pc, 0x0100), (.a0, 0x012345678), (.a1, 0xF80000000), (.b0, 0x000007FFF), (.b1, 0x800000000), (.x, 0x8000), (.y, 0x7FFF),
     (.p, 0xFFFFFFFF), (.sv, 36), (.r0, 0xBFFF), (.r1, 0x1000), (.r2, 0x2000), (.r4, 0xC000), (.rb, 0x2010), (.sp, 0x4001),
     (.cfgi, 0x0301), (.page, 0x12), (.flags, 0b01000101), (.data 0xBFFF, 0x8000), (.data 0xC000, 0x7FFF),
     (.data 0x4001, 0x0234), (.data 0x1234, 0xFFFF)]

/-- The state inside the block-repeat loop 0x0100 to 0x0105, one level deep. -/
def looping : State :=
  { busy with
    icr := { busy.icr with bc := 1, lp := true }
    loops := { busy.loops with lc := 2, bk1 := { start := 0x0100, last := 0x0105, savedLc := 0 } } }

/-- The state inside four nested loops whose last addresses rise outward. -/
def nested : State :=
  { looping with
    icr := { looping.icr with bc := 4 }
    loops := { looping.loops with
      bk1 := { start := 0x00F0, last := 0x0140, savedLc := 0 }, bk2 := { start := 0x00F8, last := 0x0130, savedLc := 5 }
      bk3 := { start := 0x00FC, last := 0x0120, savedLc := 6 }, bk4 := { start := 0x00FE, last := 0x0110, savedLc := 7 } } }

/-- The state at a boundary after the first instruction, with the maskable interrupts enabled. -/
def alive : State :=
  { busy with svc := { busy.svc with started := true }
              stat := { busy.stat with ie := true, im0 := true, im1 := true, im2 := true } }

/-- R404: the loop's first address is behind `bkrep`, its last the operand word. -/
theorem test_bkrep : leaves (exec (.bkrepShort 3 0x010B) { busy with pc := 0x0102 }) (fun t =>
    t.loops.lc == 3 && t.icr.bc == 1 && t.icr.lp && t.loops.bk1.start == 0x0102 && t.loops.bk1.last == 0x010B) = true := by
  decide +kernel

/-- R405: an inner `bkrep` saves lc of the enclosing loop. -/
theorem test_bkrep_inner : leaves (exec (.bkrepReg .r1 0x0104) { looping with pc := 0x0102 }) (fun t =>
    t.loops.lc == 0x1000 && t.icr.bc == 2 && t.loops.bk2 == { start := 0x0102, last := 0x0104, savedLc := 2 }) = true := by
  decide +kernel

/-- R400: `rep #255`. -/
theorem test_rep : leaves (exec (.repShort 255) busy) (fun t => t.loops.repc == 255 && t.loops.repActive) = true := by
  decide +kernel

/-- R402: with the counter at 0 the repetition ends behind the instruction; before that it goes back. -/
theorem test_repetition :
    leaves (step (withPart { busy with loops := { busy.loops with repActive := true } } (.prog 0x0100, 0x67D0)))
      (fun t => t.pc == 0x0101 && !t.loops.repActive) = true ∧
    leaves (step (withPart { busy with loops := { busy.loops with repActive := true, repc := 1 } } (.prog 0x0100, 0x67D0)))
      (fun t => t.pc == 0x0100 && t.loops.repActive && t.loops.repc == 0) = true := by decide +kernel

/-- R406: behind the last address the loop goes back, and with lc at 0 it ends. -/
theorem test_loop_end :
    leaves (step { looping with pc := 0x0105 }) (fun t => t.pc == 0x0100 && t.loops.lc == 1 && t.icr.lp) = true ∧
    leaves (step { looping with pc := 0x0105, loops := { looping.loops with lc := 0 } })
      (fun t => t.pc == 0x0106 && !t.icr.lp && t.icr.bc == 0) = true := by decide +kernel

/-- R408: `break` leaves the loop without a jump. -/
theorem test_break : leaves (exec .breakLoop nested) (fun t =>
    t.icr.bc == 3 && t.icr.lp && t.loops.lc == 7 && t.pc == 0x0100) = true := by decide +kernel

/-- R436, R442: `retd` jumps after two cycles of delay slot. -/
theorem test_retd : leaves (step (withPart busy (.prog 0x0100, 0xD780))) (fun t =>
    t.pc == 0x0101 && t.dau.sp == 0x4002 && leaves (step t) (fun u => u.pc == 0x0102 && leaves (step u) (fun v =>
      v.pc == 0x0234 && v.svc.dret == none))) = true := by decide +kernel

/-- R440: `retid` sets IE and ends the NMI routine at once. -/
theorem test_retid : leaves (exec .retid { busy with svc := { busy.svc with inNmi := true } }) (fun t =>
    t.stat.ie && !t.svc.inNmi && t.dau.sp == 0x4002) = true := by decide +kernel

/-- R462: `cntx s` swaps a1 with b1 and PAGE with its alternative, and copies the flags. -/
theorem test_cntx_s : leaves (exec .cntxS busy) (fun t =>
    t.accs.a1 == 0x800000000 && t.accs.b1 == 0xF80000000 && t.stat.page == 0 && t.shadow.altPage == 0x12 && t.shadow.flags.r &&
      t.flags.m && t.flags.e && t.flags.r && !t.flags.z) = true := by decide +kernel

/-- R463: `cntx r` takes the flags back from the shadow and leaves IE. -/
theorem test_cntx_r : leaves (exec .cntxR { alive with shadow := { busy.shadow with altPage := 0x34, sat := true } }) (fun t =>
    t.stat.page == 0x34 && t.stat.sat && t.stat.ie && !t.stat.im0 && t.flags == Flags.zero && t.accs.a1 == 0x800000000) =
      true := by decide +kernel

/-- R505, R98: the entry of INT1 stacks the address, clears IE and goes to 0x000E. -/
theorem test_entry : leaves (step { alive with pins := { alive.pins with int1 := true } }) (fun t =>
    t.pc == 0x000E && t.dau.sp == 0x4000 && Memory.word t.dmem 0x4000 == 0x0100 && !t.stat.ie && t.out.ack) = true := by
  decide +kernel

/-- R454: `trap` goes to 0x0002 and loads dvm with the address behind it. -/
theorem test_trap_entry : leaves (step (withPart busy (.prog 0x0100, 0x0020))) (fun t =>
    t.pc == 2 && t.dvm == 0x0101 && t.svc.inTrap && Memory.word t.dmem 0x4000 == 0x0101) = true := by decide +kernel

/-- R74: reset clears pc and the status bits and leaves a0l. -/
theorem test_reset : leaves (step { looping with pins := { looping.pins with reset := true } }) (fun t =>
    t.pc == 0 && t.icr.bc == 0 && !t.flags.m && t.accs.a0 == 0x012345678 && t.dau.sp == 0x4001) = true := by decide +kernel

/-- R158: a reserved word stops at its address. -/
theorem test_reserved_word :
    (match step (withPart busy (.prog 0x0100, 0x6770)) with
     | .refused (.noPattern w a) => w == 0x6770 && a == 0x0100
     | _ => false) = true := by decide +kernel

/-- The placed table word is the next instruction from reset. -/
theorem test_placed_word : leaves (step (State.reset.withFetchWord 16 0xC6FF)) (fun t => t.accs.a0 == 255 && t.pc == 1) =
    true := by decide +kernel

/-! ### Witnesses: states and operands that meet the hypotheses of each statement -/

theorem witness_DecodeEncode : (Instr.movRegReg .a0 .p).WellFormed ∧ (Instr.movLongReg .pc 0xFFFF).WellFormed := by decide

theorem witness_DecodedLength : decodesTo (0xD4FB, 0xFFFF, .addDirLong .a0 0xFFFF) = true ∧ decodesTo (0, 0, .nop) = true ∧
    wordLength 0xD4FB = 2 ∧ wordLength 0 = 1 := by decide +kernel

/-- The hypotheses of StepRunsDecoded in a state with the given pc and words; what the hazard check answers. -/
def runsDecoded (s : State) (i : Instr) (refusal : Option Refusal) : Bool :=
  !s.pins.reset && s.accepted.isNone && (!s.svc.inBoot || s.pc != 0) && s.progReadable s.pc && s.progReadable (s.pc + 1) &&
  (match decode (Memory.word s.pmem s.pc)
      (if wordLength (Memory.word s.pmem s.pc) = 2 then Memory.word s.pmem (s.pc + 1) else 0) with
   | .ok j => j == i | .error _ => false) &&
  hazard (Instr.traits i) s.pc (s.begin (Instr.traits i).words) == refusal

theorem witness_StepRunsDecoded :
    runsDecoded (withParts busy [(.prog 0xFFFF, 0xD4FB), (.prog 0, 0x1050), (.pc, 0xFFFF)]) (.addDirLong .a0 0x1050) none = true ∧
    runsDecoded (withParts looping [(.prog 0x0105, 0x57F0), (.pc, 0x0105)]) (.brr (-1) .always) (some .loopPlacement) = true := by
  decide +kernel

/-- An outcome is the refusal r. -/
def refusedWith (o : Out) (r : Refusal) : Bool :=
  match o with
  | .refused q => q == r
  | .next _ => false
  | .fault _ => false

/-- A chip with each kind of region, each met at its first and its last address; no ext1, and ext3 a device. -/
def mapped : State :=
  { busy with chip := { busy.chip with
      ext1Kind := .absent
      ext3Kind := .device
      dataMap := [⟨0x1000, 0x10FF, .rom⟩, ⟨0x2000, 0x20FF, .device⟩, ⟨0xFF00, 0xFFFF, .nothing⟩]
      progMap := [⟨0x0000, 0x0FFF, .rom⟩, ⟨0x8000, 0x80FF, .device⟩, ⟨0xF000, 0xFFFF, .nothing⟩] } }

/-- The clauses of StepRunsDecoded that refuse: the reserved code of moda, an undefined rN, `add a0, a0`, all at 0x0100; the first
word at a device address or at one with nothing, and the second. -/
theorem witness_StepRefuses :
    [(0x6770, Refusal.noPattern 0x6770 0x0100), (0x8086, .reservedField 0x8086 0x0100), (0x86B8, .excludedOperand 0x86B8 0x0100)].all
      (fun (w, r) => refusedWith (step (withParts busy [(.prog 0x0100, w), (.pc, 0x0100)])) r) = true ∧
    refusedWith (step (withPart mapped (.pc, 0x80FF))) .progDevice = true ∧
    refusedWith (step (withPart mapped (.pc, 0xF000))) .progAbsent = true ∧
    refusedWith (step (withParts mapped [(.prog 0x7FFF, 0xD4FB), (.pc, 0x7FFF)])) .progDevice = true ∧
    refusedWith (step (withParts mapped [(.prog 0xEFFF, 0xD4FB), (.pc, 0xEFFF)])) .progAbsent = true := by decide +kernel

theorem witness_InvariantStep : looping.Inv ∧ runs (step { looping with pc := 0x0105 }) = true := by decide +kernel

theorem witness_ResetEvent : ({ looping with pins := { looping.pins with reset := true, boot := true } } : State).pins.reset =
    true := by decide +kernel

theorem witness_BootInsertion : let s := { busy with pins := { busy.pins with boot := true } }
    s.pins.reset = false ∧ s.pins.boot = true ∧ s.pins.bi = false ∧ runs (step s.resetEvent) = true := by decide +kernel

/-- `alive` with the requests BI, NMI, INT0, INT1, INT2 as given. -/
def requesting (bi nmi int0 int1 int2 : Bool) : State :=
  { alive with pins := { alive.pins with bi := bi, nmi := nmi, int0 := int0, int1 := int1, int2 := int2 } }

/-- R504: a source that is held does not block a lower one. -/
theorem test_closed_source :
    ({ requesting false false true true false with
        svc := { alive.svc with hold := { Holds.zero with int0 := 1 } } } : State).accepted = some .int1 := by decide +kernel

theorem witness_Acceptance :
    (requesting true true true true true).accepted = some .bi ∧ (requesting false true true true true).accepted = some .nmi ∧
    (requesting false false true true true).accepted = some .int0 ∧
    (requesting false false false true true).accepted = some .int1 ∧
    (requesting false false false false true).accepted = some .int2 ∧
    ({ requesting true true true true true with svc := { alive.svc with inNmi := true } } : State).accepted = some .bi ∧
    ({ requesting true true true true true with svc := { alive.svc with inTrap := true } } : State).accepted = none ∧
    ({ requesting true true true true true with
        loops := { alive.loops with repActive := true, repSavedActive := true } } : State).accepted = none ∧
    ({ requesting true true true true true with
        svc := { alive.svc with dret := some { target := 0, left := 1, fromTrap := false } } } : State).accepted = none := by
  decide +kernel

theorem witness_InterruptEntry :
    [requesting true true true true true, requesting false true true true true, requesting false false true true true,
     requesting false false false true true, requesting false false false false true,
     withPart (requesting false true false false false) (.sp, 0)].all (fun s =>
      !s.pins.reset && s.accepted.isSome && s.writable (s.dau.sp - 1) && Memory.wf s.dmem && runs (step s)) = true := by
  decide +kernel

theorem witness_HoldCounters :
    busy.loops.repActive = false ∧ busy.svc.afterTrap = false ∧ tableHold (.popReg .st0) busy .int0 = 2 ∧
    tableHold (.br .eq 0) busy .nmi = 1 ∧
    (let s := { busy with loops := { busy.loops with repActive := true } }
     (s.control s (Instr.traits .nop) s.pc).loops.repActive = false) ∧
    ({ busy with svc := { busy.svc with afterTrap := true } } : State).svc.afterTrap = true ∧
    (let s := { busy with loops := { busy.loops with repActive := true, repc := 2, repSavedActive := true } }
     (s.control s (Instr.traits .nop) s.pc).loops.repActive = true ∧
     ({ s with loops := { s.loops with repc := 0 } }.control s (Instr.traits .nop) s.pc).loops.repActive = false) := by
  decide +kernel

theorem witness_TrapEntry : busy.svc.inTrap = false ∧ busy.writable (busy.dau.sp - 1) = true ∧ Memory.wf busy.dmem = true ∧
    ({ busy with svc := { busy.svc with inTrap := true } } : State).svc.inTrap = true := by decide +kernel

theorem witness_AddInstructions :
    [Instr.addDirect .a0 0x34, .addInd .a1 .r0 .inc, .addReg .a0 .a1, .addReg .a1 .p, .addReg .a0 .sv, .addShort .a0 255,
     .addLong .a1 0x8000, .addIdx7 .a0 0x40, .addIdx16 .a0 0xFFFF, .addDirLong .a1 0xFFFF, .addhReg .a0 .r0, .addlInd .a1 .r4 .step].all
      (fun i => i.wellFormed && (match addView i with | some (_, _, x) => aluReady x busy | none => false)) = true := by
  decide +kernel

theorem witness_SubtractInstructions :
    [Instr.subDirect .a0 0x34, .subReg .a0 .p, .subhInd .a0 .r0 .dec, .sublReg .a0 .st0, .cmpReg .a1 .a0, .cmpShort .a0 255,
     .cmpuReg .a0 .sv, .subIdx7 .a0 0x40].all
      (fun i => i.wellFormed && (match subView i with | some (_, _, x) => aluReady x busy | none => false)) = true := by
  decide +kernel

theorem witness_LogicInstructions :
    [Instr.andShort .a0 0, .andReg .a0 .p, .orReg .a1 .a0, .xorLong .a0 0xFFFF, .andInd .a1 .r0 .inc].all
      (fun i => match logicView i with | some (_, _, x) => aluReady x busy | none => false) = true := by decide +kernel

theorem witness_ModifyRegister :
    [Instr.addvReg .st0 1, .subvReg .a0h 0x8000, .setReg .b1l 0xFFFF, .rstReg .sp 1, .chngReg .ext0 0xFFFF].all
      (fun i => match rmwView i with | some (_, .reg r, _) => regReady r busy | _ => false) = true := by decide +kernel

theorem witness_ModifyMemory :
    [Instr.addvDirect 0x34 0xFFFF, .subvInd .r0 .inc 1, .setInd .r4 .step 0xFFFF, .rstDirect 0xFF 1, .chngInd .r1 .none 1].all
      (fun i => match rmwView i with
        | some (_, x, _) => (match place x busy with | some a => busy.writable a | none => false)
        | none => false) = true ∧ Memory.wf busy.dmem = true := by decide +kernel

theorem witness_CompareLong :
    [Instr.cmpvDirect 0x34 0xFFFF, .cmpvInd .r0 .inc 0x8000, .cmpvReg .a0h 0].all
      (fun i => match cmpvView i with | some (x, _) => ready x busy | none => false) = true := by decide +kernel

theorem witness_ConditionFalse : condView (.shfc .a0 .b0 .eq) = some .eq ∧ condView (.brr 0x7F .ge) = some .ge ∧
    holds .eq busy = false ∧ holds .ge busy = false := by decide +kernel

theorem witness_ShiftsAndRotates : shiftFnView (.shl4B .b1 .lt) = some (.b1, .lt, 4) ∧ rotateView (.rorA .a1 .le) =
    some (.a1, .le, false) ∧ holds .lt busy = true ∧ holds .le busy = true := by decide +kernel

theorem witness_AccumulatorFunctions : accFnView (.pacrA .a0 .neq) = some (.pacr, .a0, .neq) ∧
    accFnView (.clrB .b0 .always) = some (.clr, .b0, .always) ∧ holds .neq busy = true ∧ holds .always busy = true := by
  decide +kernel

theorem witness_DivideStep : busy.readable (busy.stat.page ++ (0x34 : BitVec 8)) = true := by decide +kernel

theorem witness_Extremes : extremeView (.maxd .gt .a0 .step) = some (.gt, .data, .a0, .step) ∧
    extremeView (.min .le .a1 .dec) = some (.le, .other, .a1, .dec) ∧ busy.readable busy.dau.r0 = true := by decide +kernel

theorem witness_Limit : limitView .limA0A1 = some (.a0, .a1) := by decide +kernel

theorem witness_Multiply :
    [Instr.mpyYReg .st0, .mpyDual .r4 .inc .r0 .dec, .mpysuLong .r0 .step 0xFFFF, .mpyYDirect 0x34, .mpyi 0x80, .sqrInd .r4 .inc].all
      (fun i => match mpyView i with | some (_, _, f) => factorsReady f busy | none => false) = true := by decide +kernel

theorem witness_MultiplyAccumulate :
    [Instr.macDual .a0 .r4 .inc .r0 .dec, .maaYInd .a1 .r0 .step, .msuYReg .a0 .lc, .macuuLong .a0 .r4 .inc 1, .sqraDirect .a1 0x34].all
      (fun i => match macView i with | some (_, _, _, _, f) => factorsReady f busy | none => false) = true := by decide +kernel

/-- Each side at its boundary: rJ just below Yspace, rI its first address. -/
theorem witness_DualOutsideSpaces :
    (withPart busy (.r4, 0xBFFF)).ptr RJ.r4.rn = 0xBFFF ∧ (withPart busy (.r0, 0xC000)).ptr RI.r0.rn = 0xC000 ∧
    busy.chip.yramconf.toNat * 1024 = 0xC000 ∧
    mpyView (.mpyDual .r4 .inc .r0 .dec) = some (.signed, .signed, .dual .r4 .inc .r0 .dec) ∧
    macView (.msuDual .a0 .r4 .inc .r0 .dec) = some (.sub, .signed, .signed, .a0, .dual .r4 .inc .r0 .dec) := by decide +kernel

theorem witness_TestBits :
    [Instr.tst0Reg .a0 .st0, .tst1LongDirect 0x34 0xFFFF, .tstbInd 15 .r0 .inc, .tstbReg 0 .sv].all
      (fun i => match testView i with | some (_, x) => ready x busy | none => false) = true := by decide +kernel

/-- The counts at the two ends of their range. -/
theorem witness_BarrelShift : shiftView (.shfc .a0 .b1 .always) = some (none, .always, .acc .a0, .b1) ∧
    shiftCount none busy = 36 ∧ shiftCount none (withPart busy (.sv, 0xFFDC)) = -36 ∧
    shiftView (.shfi .b0 .a1 0x20) = some (some 0x20, .always, .acc .b0, .a1) ∧ shiftCount (some 0x20) busy = -32 ∧
    shifteeReady (.word (.ind .r0 .inc)) busy = true ∧ holds .always busy = true := by decide +kernel

theorem witness_ShiftCountOutside : shiftView (.movsDirect .a0 0x34) = some (none, .always, .word (.direct 0x34), .a0) ∧
    shifteeReady (.word (.direct 0x34)) busy = true ∧ (withPart busy (.sv, 37)).sv.toInt = 37 ∧
    (withPart busy (.sv, 0xFFDB)).sv.toInt = -37 := by decide +kernel

theorem witness_Exponent :
    [Instr.expIndA .a0 .r0 .inc, .expRegA .a1 .a0, .expRegSv .sv, .expB1Sv].all
      (fun i => match expView i with | some (x, _) => measuredReady x busy | none => false) = true := by decide +kernel

theorem witness_MoveToRegister :
    [Instr.movRegReg .a0 .b1h, .movRegReg .p .st2, .movIndReg .st0 .r0 .inc, .movSpReg .lc, .movLongReg .pc 0xFFFF,
     .movShortExt .ext3 0x80, .movpLowReg .a0 .a1h, .popReg .sp].all
      (fun i => match regDestView i with | some (w, r) => srcReady w busy && busy.hasReg r | none => false) = true := by
  decide +kernel

theorem witness_MoveToAccumulator :
    [Instr.movRegReg .a1 .p, .movAccAcc .a0 .b1, .movDirectPart .a1l 0x34, .movDirectHighEu .a0 0x34, .movIdx7A .a1 0x40,
     .movShortHigh .a0 0x80, .movDvmA1].all
      (fun i => match accDestView i with | some (v, _) => accValueReady v busy | none => false) = true := by decide +kernel

theorem witness_MoveToMemory :
    [Instr.movRegInd .b1h .r4 .inc, .movRnDirect .y 0xFF, .movPartDirect .a0h 0x34, .movLowDirLong .a1 0xFFFF,
     .movLowIdx7 .a0 0x40, .pushReg .st1, .pushLong 0xFFFF].all
      (fun i => match memDestView i with
        | some (w, g) => srcReady w busy && busy.writable (targetAddr g busy) | none => false) = true ∧
    Memory.wf busy.dmem = true := by decide +kernel

theorem witness_MoveToSpecial :
    [Instr.movRegMixp .r0, .movDirectSv 0x34, .movRegIcr .st2, .movImmIcr 0x1F, .movA1lX, .movB0lDvm].all
      (fun i => match specialView i with | some (w, _) => srcReady w busy | none => false) = true := by decide +kernel

/-- The boundary of the last clauses: the target is the word behind `movd`, or its own. -/
theorem witness_ProgramMoves :
    RN.r4 ≠ RI.r0.rn ∧ busy.progReadable (busy.ptr .r4) = true ∧ busy.writable (busy.ptr RI.r0.rn) = true ∧
    Memory.wf busy.dmem = true ∧ Memory.wf busy.pmem = true ∧ busy.ptr RJ.r4.rn ≠ busy.pc ∧
    busy.ptr RJ.r4.rn ≠ busy.pc - 1 ∧ busy.progWritable (busy.ptr RJ.r4.rn) = true ∧
    (withPart busy (.r4, 0x0100)).ptr RJ.r4.rn = busy.pc ∧ (withPart busy (.r4, 0x00FF)).ptr RJ.r4.rn = busy.pc - 1 := by
  decide +kernel

theorem witness_MoveRound :
    [Instr.movrReg .a0 .st0, .movrInd .a1 .r0 .inc, .movrIndPart .b1 .r4 .step].all
      (fun i => match roundView i with | some (x, _) => ready x busy | none => false) = true := by decide +kernel

theorem witness_AccessStops :
    regionKind mapped.chip.dataMap 0x10FF = .rom ∧ regionKind mapped.chip.dataMap 0x2000 = .device ∧
    regionKind mapped.chip.dataMap 0xFFFF = .nothing ∧ mapped.readable 0x1000 = true ∧ mapped.readable 0x1100 = true ∧
    regionKind mapped.chip.progMap 0 = .rom ∧ regionKind mapped.chip.progMap 0x80FF = .device ∧
    regionKind mapped.chip.progMap 0xF000 = .nothing ∧ mapped.progReadable 0x0FFF = true ∧ mapped.hasReg .ext1 = false ∧
    mapped.writable 0x1100 = true ∧ mapped.progWritable 0x8100 = true ∧ mapped.hasReg .ext0 = true ∧ Reg.is16 .ext0 = true ∧
    userCode .ext0 = some 0 ∧ userKind mapped.chip 0 = .plain ∧ userCode .ext3 = some 3 ∧ userKind mapped.chip 3 = .device ∧
    userCode .sv = none ∧
    Memory.wf mapped.dmem = true ∧ Memory.wf mapped.pmem = true := by
  decide +kernel

/-- R85: a read-modify-write of a device address presents the read, then the write, and the core goes on. -/
theorem test_device : leaves (exec (.setInd .r2 .none 0) mapped) (fun t =>
    t.out.bus.map (fun b => (b.space, b.address, b.write.isSome)) == [(.data, 0x2000, false), (.data, 0x2000, true)] &&
    t.dmem == mapped.dmem) = true := by decide +kernel

/-- R99: a store to ROM goes on, and the word stays. -/
theorem test_rom : leaves (exec (.movLowDirLong .a0 0x1000) mapped) (fun t => t.dmem == mapped.dmem) = true := by decide +kernel

/-- R38: a read-modify-write of an extX that is a device presents the read, then the write, and no plain register changes. -/
theorem test_ext_device : leaves (exec (.setReg .ext3 0) mapped) (fun t =>
    t.out.bus.map (fun b => (b.space, b.address, b.write.isSome)) == [(.user, 3, false), (.user, 3, true)] &&
    t.ext == mapped.ext) = true := by decide +kernel

/-- R363: the sign-extended immediate is what a device takes. -/
theorem test_ext_device_write : leaves (exec (.movShortExt .ext3 0xFF) mapped) (fun t =>
    t.out.bus == [{ space := .user, address := 3, write := some 0xFFFF }]) = true := by decide +kernel

/-- R83: an access to an address that holds nothing is refused. -/
theorem test_nothing :
    refusedWith (exec (.movLowDirLong .a0 0xFF00) mapped) .dataAbsent = true := by decide +kernel

/-- R158, R405: `bkrep lc` inside a loop is refused with its word and address. -/
theorem test_bkrep_lc :
    refusedWith (step { withPart (withPart looping (.prog 0x0100, 0x5D1E)) (.prog 0x0101, 0x0104) with pc := 0x0100 })
      (.excludedOperand 0x5D1E 0x0100) = true := by decide +kernel

theorem witness_Repeat : repView (.repReg .a0h) = some (.reg .a0h) ∧ countReady (.reg .a0h) busy = true := by decide +kernel

/-- The clauses of BlockRepeat at their limits: three levels with a loop of two words; four levels; a loop of one word; a
last address in use; lc inside a loop. -/
theorem witness_BlockRepeat :
    (let s := { nested with icr := { nested.icr with bc := 3 } }
     s.icr.bc.toNat < 4 ∧ s.pc.toNat < (0x0101 : Word).toNat ∧ (s.loops.level 1).last ≠ 0x0101 ∧
     (s.loops.level 2).last ≠ 0x0101 ∧ (s.loops.level 3).last ≠ 0x0101) ∧
    4 ≤ nested.icr.bc.toNat ∧ (0x0100 : Word).toNat ≤ looping.pc.toNat ∧ (looping.loops.level 1).last = 0x0105 ∧
    looping.pc.toNat < (0x0105 : Word).toNat ∧ looping.icr.bc ≠ 0 ∧ countReady (.reg .lc) looping = true ∧
    bkrepView (.bkrepReg .lc 0x0101) = some (.reg .lc, 0x0101) := by decide +kernel

theorem witness_LoopEnds :
    looping.svc.dret = none ∧ looping.loops.repActive = false ∧ looping.icr.lp = true ∧ looping.icr.bc ≠ 0 ∧
    (looping.loops.level looping.icr.bc.toNat).last + 1 = 0x0105 + BitVec.ofNat 16 (Instr.traits .nop).words ∧
    looping.loops.lc ≠ 0 ∧ busy.loops.lc = 0 ∧ busy.icr.lp = false ∧
    ({ looping with loops := { looping.loops with repActive := true } } : State).loops.repActive = true := by decide +kernel

theorem witness_Break : nested.icr.bc ≠ 0 ∧ nested.icr.lp = true ∧ looping.icr.bc = 1 ∧ looping.icr.lp = true ∧
    busy.icr.bc = 0 := by decide +kernel

theorem witness_Branches : branchView (.brr 0x40 .lt) = some (.lt, .relative 0x40) ∧ branchView (.br .always 0xFFFF) =
    some (.always, .word 0xFFFF) ∧ holds .lt busy = true ∧ holds .always busy = true := by decide +kernel

/-- The stack word below sp at both ends of Zspace and on both sides of it. -/
theorem witness_Calls :
    callView .callaA1 = some (.always, .low .a1) ∧ callView (.callr 0x7F .eq) = some (.eq, .relative 0x7F) ∧
    holds .always busy = true ∧ holds .eq busy = false ∧ busy.writable (busy.dau.sp - 1) = true ∧ Memory.wf busy.dmem = true ∧
    busy.chip.xramconf.toNat * 1024 = (busy.dau.sp - 1).toNat ∧
    ((withPart busy (.sp, 0x4000)).dau.sp - 1).toNat < busy.chip.xramconf.toNat * 1024 ∧
    ((withPart busy (.sp, 0xC000)).dau.sp - 1).toNat < busy.chip.yramconf.toNat * 1024 ∧
    busy.chip.yramconf.toNat * 1024 = ((withPart busy (.sp, 0xC001)).dau.sp - 1).toNat := by decide +kernel

theorem witness_Returns : busy.readable busy.dau.sp = true ∧ holds .always busy = true ∧
    (let s := { busy with loops := { busy.loops with repSavedActive := true, repSavedAddr := 0x0234, repSavedC := 5 } }
     (jumpBack s (Memory.word s.dmem s.dau.sp)).loops.repActive = true) := by decide +kernel

theorem witness_DelayedReturns : busy.readable busy.dau.sp = true ∧ runs (exec .retd busy) = true := by decide +kernel

theorem witness_DelaySlot :
    let d : DelayedReturn := { target := 0xFFFF, left := 2, fromTrap := true }
    let s : State := { busy with svc := { busy.svc with dret := some d } }
    s.svc.dret = some d ∧ cycleCount .nop s < d.left ∧ d.left ≤ cycleCount (.pushLong 1) s := by decide +kernel

/-- Buffers of a power of two and others, both directions, a step of the whole range. -/
theorem witness_ModuloStep :
    moduloWidth 7 1 3 ∧ (moduloStep 0x0107 1 7).toNat % 8 = 0 ∧ (moduloStep 0x0100 (-1) 7).toNat % 8 = 7 ∧
    (moduloStep 0x0102 1 7).toNat % 8 = 3 ∧ moduloStep 0x0102 1 0 = 0x0102 ∧
    (0x0106 : Word).toNat % 8 < 6 + (3 : Int).natAbs ∧ ((3 : Int) ≠ 0 ∧ (3 : Int).natAbs ∣ 6 ∧ (3 : Int).natAbs ∣ (0x0106 : Word).toNat % 8) ∧
    (moduloStep 0x0106 3 6).toNat % 8 = 0 := by
  refine ⟨.inl ?_, ?_, ?_, ?_, ?_, ?_, ?_, ?_⟩ <;> decide +kernel

/-- MOD + |q| = 9 is no power of two: 2^3 is the least above 6. -/
theorem witness_ModuloStep_not_power : moduloWidth 6 3 3 := by
  refine .inr ⟨fun j => ?_, by decide, fun j hj => ?_⟩
  · have h : j < 4 ∨ 16 ≤ 2 ^ j := by
      rcases Nat.lt_or_ge j 4 with h | h
      · exact .inl h
      · exact .inr (Nat.pow_le_pow_right (n := 2) (by decide) h)
    rcases h with h | h
    · interval_cases j <;> decide
    · intro hj
      rw [← hj] at h
      exact absurd h (by decide)
  · interval_cases j <;> decide

/-- One word for each clause of `ReservedWords`, at the ends of the ranges it names: reserved `moda`, `modb` and ALU codes, an
undefined pointer code, an undefined `swap` option, an excluded operand, a `norm` and an `mpy` with an ignored bit set. -/
theorem witness_ReservedWords :
    [0x6770, 0x777F, 0x6F70, 0x7FFF, 0x88C0, 0x8BDF, 0xC800, 0xCBFF, 0x4800, 0x4B7F, 0xD4DC, 0xD5FD].all
      (fun n => decide (decode (BitVec.ofNat 16 n) 0 = .error .noPattern)) = true ∧
    [0x8686, 0x94DF, 0x498E, 0x49BF].all (fun n => decide (decode (BitVec.ofNat 16 n) 0 = .error .reservedField)) = true ∧
    excludes (.addReg .a0 .a0) = true ∧ decode (encodeFirst (.addReg .a0 .a0)) 0 = .error .excludedOperand ∧
    decode 0x94EA 0 = .ok (.norm .a0 .r2 .inc) ∧ encodeFirst (.norm .a0 .r2 .inc) = 0x94CA ∧
    decode 0x8820 0 = .ok (.mpyYInd .r0 .none) ∧ encodeFirst (.mpyYInd .r0 .none) = 0x8020 ∧
    (⟨0xFEC0, 0x94C0, 0x20, true⟩ : Pattern) ∈ patterns ∧ (⟨0xF7E0, 0x8020, 0x800, true⟩ : Pattern) ∈ patterns := by decide +kernel

theorem witness_RegisterWrite : accWrite .a1h 0x8000 = some (.a1, -0x80000000) ∧ accWrite .r0 1 = none ∧
    mapped.extKind .ext0 ≠ .device ∧ mapped.extKind .ext3 = .device ∧ userCode .ext3 = some 3 ∧
    mapped.extKind .ext0 = .plain ∧ fieldWrite mapped .sp 1 ≠ none := by decide +kernel

/-- One step of each forbidden sequence. -/
theorem witness_ForbiddenSequences :
    (let prev (p : Previous) : State := { busy with svc := { busy.svc with prev := p } }
     hazard (Instr.traits (.addIdx7 .a0 1)) 0 (prev { Previous.zero with wroteRb := true }) = some .indexAfterRb ∧
     hazard (Instr.traits .retd) 0 (prev { Previous.zero with wroteSp := true }) = some .delayedReturnAfterSp ∧
     hazard (Instr.traits (.bkrepShort 1 5)) 0 (prev { Previous.zero with wroteIcr := true }) = some .blockRepeatAfterIcr ∧
     hazard (Instr.traits (.movMixpReg .r0)) 0 (prev { Previous.zero with wasMinMax := true }) = some .mixpAfterMinMax) ∧
    hazard (Instr.traits (.addLong .a0 1)) 0 { busy with loops := { busy.loops with repActive := true } } = some .notRepeatable ∧
    (let d : DelayedReturn := { target := 0, left := 1, fromTrap := false }
     hazard (Instr.traits (.pushLong 1)) 0 { busy with svc := { busy.svc with dret := some d } } = some .notInDelaySlot) ∧
    hazard (Instr.traits (.brr 0 .always)) looping.loopLast looping = some .loopPlacement ∧
    hazard (Instr.traits (.movRegReg .pc .r0)) 0 (withPart busy (.prog 0x0101, 0x0020)) = some .paddingNotNop ∧
    hazard (Instr.traits (.movLongReg .pc 0)) 0 (withPart busy (.prog 0x0101, 0x0020)) = none ∧
    hazard (Instr.traits .nop) 0 busy = none := by decide +kernel

/-- R73, log 60: one instruction after a write to icr its enables count; two writes back to back leave the old ones. -/
theorem test_icr_late :
    (let s := { withPart (withPart busy (.prog 0x0100, 0x4F81)) (.prog 0x0101, 0x4F82) with icr := busy.icr }
     leaves (step s) (fun t => t.icr.nmic && t.svc.icrCtx == 0 && leaves (step t) (fun u => u.icr.ic0 && u.svc.icrCtx == 0))) = true := by
  decide +kernel

/-- The hypotheses of InvariantStep inside four loops. -/
theorem witness_InvariantStep_nested : nested.Inv ∧ runs (step nested) = true := by decide +kernel

end Sys2Proof.Tests
end

namespace Sys2Proof.Machine

open Sys2Proof.Claim

/-! ### The words of st0, st1, st2, part by part (R40 to R42) -/

/-- st2[9:0] (R42): the bits of st2 that a write reaches. -/
def State.st2Low (s : State) : BitVec 10 :=
  BitVec.ofBool s.stat.ou1 ++ BitVec.ofBool s.stat.ou0 ++ BitVec.ofBool s.stat.s ++ BitVec.ofBool s.stat.im2 ++ s.stat.modulo

theorem State.st0_low (s : State) : s.st0.extractLsb' 0 12 = s.st0Low := BitVec.extractLsb'_append_eq_right

theorem State.st1_low (s : State) (b : BitVec 2) : (s.st1 b).extractLsb' 0 8 = s.stat.page :=
  BitVec.extractLsb'_append_eq_right

theorem State.st1_reserved (s : State) (b : BitVec 2) : (s.st1 b).extractLsb' 8 2 = b := by
  unfold State.st1
  rw [BitVec.extractLsb'_append_eq_of_le (by decide)]
  exact BitVec.extractLsb'_append_eq_right

theorem State.st1_high (s : State) (b : BitVec 2) :
    (s.st1 b).extractLsb' 10 6 = s.accs.a1.extractLsb' 32 4 ++ s.stat.ps := by
  unfold State.st1
  rw [BitVec.extractLsb'_append_eq_of_le (by decide)]
  exact BitVec.extractLsb'_append_eq_left

theorem State.st2_low (s : State) (b : BitVec 1) : (s.st2 b).extractLsb' 0 10 = s.st2Low := by
  apply BitVec.eq_of_getLsbD_eq
  intro i hi
  simp only [State.st2, State.st2Low, BitVec.getLsbD_append, BitVec.getLsbD_extractLsb']
  interval_cases i <;> rfl

/-- R42, R59: the bits of st2 above the writable ones are the pins, and the reserved bit. -/
theorem State.st2_pins (s : State) (b : BitVec 1) :
    (s.st2 b).getLsbD 15 = s.pins.int1 ∧ (s.st2 b).getLsbD 14 = s.pins.int0 ∧ (s.st2 b).getLsbD 13 = s.pins.int2 ∧
    (s.st2 b).getLsbD 12 = b.getLsbD 0 ∧ (s.st2 b).getLsbD 11 = s.pins.iuser1 ∧ (s.st2 b).getLsbD 10 = s.pins.iuser0 := by
  simp only [State.st2, BitVec.getLsbD_append]
  simp

/-! ### What a write to st0, st1, st2 leaves in them (R63) -/

@[simp] theorem replaceExt_extension (x : Acc) (e : BitVec 4) : (replaceExt x e).extractLsb' 32 4 = e :=
  BitVec.extractLsb'_append_eq_left

/-- The new extension nibble is bits 15..12 of the word, in integers. -/
theorem replaceExt_eq_extended (x : Acc) (v : Word) :
    replaceExt x (v.extractLsb' 12 4) = extended x (v.toNat / 4096) := by
  apply BitVec.eq_of_toNat_eq
  have hv := v.isLt
  simp only [replaceExt, extended, BitVec.toNat_append, BitVec.extractLsb'_toNat, Nat.shiftRight_eq_div_pow]
  rw [← Nat.shiftLeft_add_eq_or_of_lt (by omega)]
  simp
  omega

/-- All sixteen bits of st0 are writable (R40, R63). -/
@[simp] theorem State.st0_setSt0 (s : State) (v : Word) : (s.setSt0 v).st0 = v := by
  apply BitVec.eq_of_getLsbD_eq
  intro i hi
  simp only [State.st0, State.st0Low, State.setSt0, replaceExt_extension, BitVec.getLsbD_append,
    BitVec.getLsbD_extractLsb', BitVec.getLsbD_ofBool]
  interval_cases i <;> rfl

theorem State.st1_setSt1 (s : State) (v : Word) (b : BitVec 2) :
    ((s.setSt1 v).st1 b).extractLsb' 10 6 = v.extractLsb' 10 6 ∧
    ((s.setSt1 v).st1 b).extractLsb' 0 8 = v.extractLsb' 0 8 ∧ ((s.setSt1 v).st1 b).extractLsb' 8 2 = b := by
  refine ⟨?_, State.st1_low _ b, State.st1_reserved _ b⟩
  calc ((s.setSt1 v).st1 b).extractLsb' 10 6
      = (replaceExt s.accs.a1 (v.extractLsb' 12 4)).extractLsb' 32 4 ++ v.extractLsb' 10 2 := State.st1_high _ b
    _ = v.extractLsb' 12 4 ++ v.extractLsb' 10 2 := by rw [replaceExt_extension]
    _ = v.extractLsb' 10 6 := BitVec.extractLsb'_append_extractLsb'_eq_extractLsb' rfl

theorem State.st2Low_setSt2 (s : State) (v : Word) : (s.setSt2 v).st2Low = v.extractLsb' 0 10 := by
  apply BitVec.eq_of_getLsbD_eq
  intro i hi
  simp only [State.st2Low, State.setSt2, BitVec.getLsbD_append, BitVec.getLsbD_extractLsb', BitVec.getLsbD_ofBool]
  interval_cases i <;> rfl

theorem State.setSt0_eq (s : State) (v : Word) :
    s.setSt0 v = { s with
      accs := s.accs.set .a0 (extended s.accs.a0 (v.toNat / 4096))
      flags := {
        z := v.getLsbD 11, m := v.getLsbD 10, n := v.getLsbD 9, v := v.getLsbD 8
        c := v.getLsbD 7, e := v.getLsbD 6, l := v.getLsbD 5, r := v.getLsbD 4 }
      stat := { s.stat with
        im1 := v.getLsbD 3, im0 := v.getLsbD 2, ie := v.getLsbD 1, sat := v.getLsbD 0 } } := by
  rw [← replaceExt_eq_extended]; rfl

theorem State.setSt1_eq (s : State) (v : Word) :
    s.setSt1 v = { s with
      accs := s.accs.set .a1 (extended s.accs.a1 (v.toNat / 4096))
      stat := { s.stat with ps := BitVec.ofNat 2 (v.toNat / 1024), page := BitVec.ofNat 8 v.toNat } } := by
  have hps : BitVec.ofNat 2 (v.toNat / 1024) = v.extractLsb' 10 2 := by
    rw [BitVec.extractLsb', Nat.shiftRight_eq_div_pow]
  rw [← replaceExt_eq_extended, hps]; rfl

theorem State.setSt2_eq (s : State) (v : Word) :
    s.setSt2 v = { s with
      stat := { s.stat with
        ou1 := v.getLsbD 9, ou0 := v.getLsbD 8, s := v.getLsbD 7, im2 := v.getLsbD 6
        modulo := BitVec.ofNat 6 v.toNat } } := rfl

/-! ### Writes to the other registers (R30, R38, R63) -/

variable {s t : State} {r q : Reg} {c v : Word}

@[simp] theorem low16_accLow (v : Word) : low16 (accLow v) = v := by
  apply BitVec.eq_of_getLsbD_eq
  intro i hi
  simp only [low16, accLow, BitVec.getLsbD_extractLsb', BitVec.getLsbD_setWidth]
  simp [hi]
  omega

@[simp] theorem high16_accHigh (v : Word) : high16 (accHigh v) = v := by
  apply BitVec.eq_of_getLsbD_eq
  intro i hi
  simp only [high16, accHigh, highAcc, BitVec.getLsbD_extractLsb', BitVec.getLsbD_append, BitVec.getLsbD_signExtend]
  simp [hi]
  omega

theorem State.setReg_of_fieldWrite (h : fieldWrite s r v = some t) : s.setReg r v = t := by
  cases r <;> cases h <;> rfl

theorem userCode_eq_some :
    userCode r = some c ↔ (r = .ext0 ∧ c = 0) ∨ (r = .ext1 ∧ c = 1) ∨ (r = .ext2 ∧ c = 2) ∨ (r = .ext3 ∧ c = 3) := by
  constructor
  · intro h
    cases r <;> cases h <;> simp
  · rintro (⟨rfl, rfl⟩ | ⟨rfl, rfl⟩ | ⟨rfl, rfl⟩ | ⟨rfl, rfl⟩) <;> rfl

theorem userCode_lt (h : userCode r = some c) : c.toNat < 4 := by
  rcases userCode_eq_some.1 h with ⟨-, rfl⟩ | ⟨-, rfl⟩ | ⟨-, rfl⟩ | ⟨-, rfl⟩ <;> decide

/-- The user-defined registers with the one of a select code replaced. -/
def ExtRegs.withWord (e : ExtRegs) (c v : Word) : ExtRegs :=
  if c = 0 then { e with ext0 := v } else if c = 1 then { e with ext1 := v }
  else if c = 2 then { e with ext2 := v } else { e with ext3 := v }

@[simp] theorem ExtRegs.userWord_withWord_self (e : ExtRegs) (c v : Word) : userWord (e.withWord c v) c = v := by
  unfold userWord ExtRegs.withWord
  split_ifs <;> rfl

theorem ExtRegs.userWord_withWord_ne (e : ExtRegs) {c d : Word} (v : Word) (hc : c.toNat < 4) (hd : d.toNat < 4)
    (h : d ≠ c) : userWord (e.withWord c v) d = userWord e d := by
  unfold userWord ExtRegs.withWord
  split_ifs <;> first | rfl | bv_omega

theorem State.extKind_of_userCode (h : userCode r = some c) : s.extKind r = userKind s.chip c := by
  rcases userCode_eq_some.1 h with ⟨rfl, rfl⟩ | ⟨rfl, rfl⟩ | ⟨rfl, rfl⟩ | ⟨rfl, rfl⟩ <;> rfl

theorem State.extKind_of_userCode_none (s : State) (h : userCode r = none) : s.extKind r = .plain := by
  cases r <;> first | rfl | cases h

/-- A write to a user-defined register goes to the one of its select code (R38, R112). -/
theorem State.setReg_user (h : userCode r = some c) :
    s.setReg r v = s.writeExt (s.extKind r) c v (s.ext.withWord c v) := by
  rcases userCode_eq_some.1 h with ⟨rfl, rfl⟩ | ⟨rfl, rfl⟩ | ⟨rfl, rfl⟩ | ⟨rfl, rfl⟩ <;> rfl

/-- A write to an accumulator or a part of one writes the whole accumulator (R30). -/
theorem State.setReg_of_accWrite {i : AB} {x : Int} (h : accWrite r v = some (i, x)) :
    s.setReg r v = { s with accs := s.accs.set i (BitVec.ofInt 36 x) } := by
  have hfull : accFull v = BitVec.ofInt 36 v.toInt := Word.signExtend_int v
  have hlow : accLow v = BitVec.ofInt 36 v.toNat := Word.setWidth_int v
  have hhigh : accHigh v = BitVec.ofInt 36 (v.toInt * 65536) := highAcc_int v
  cases r <;> cases h <;> simp only [State.setReg, Accs.set, hfull, hlow, hhigh]

/-- The high half of the product is the word, the low half stays (R24, R63). -/
theorem State.setReg_p_toNat (s : State) (v : Word) :
    (s.setReg .p v).mul.p.toNat = v.toNat * 65536 + s.mul.p.toNat % 65536 := by
  have hp := s.mul.p.isLt
  simp only [State.setReg, BitVec.toNat_append, BitVec.extractLsb'_toNat, Nat.shiftRight_eq_div_pow]
  rw [← Nat.shiftLeft_add_eq_or_of_lt (by omega)]
  simp
  omega

/-! ### What registers read as after a write (R62) -/

theorem State.regValue_user (h : userCode r = some c) :
    s.regValue r = (s.extKind r).answer s.freeCtr (userWord s.ext c) := by
  rcases userCode_eq_some.1 h with ⟨rfl, rfl⟩ | ⟨rfl, rfl⟩ | ⟨rfl, rfl⟩ | ⟨rfl, rfl⟩ <;> rfl

theorem State.setReg_user_of_ne_device (h : userCode r = some c) (hd : s.extKind r ≠ .device) :
    s.setReg r v = { s with ext := s.ext.withWord c v } := by
  rw [State.setReg_user h]
  cases hk : s.extKind r with
  | absent | plain => rfl
  | device => contradiction

theorem State.setReg_user_of_device (h : userCode r = some c) (hd : s.extKind r = .device) :
    s.setReg r v = s.presentWrite .user c v := by
  rw [State.setReg_user h, hd]; rfl

theorem State.regValue_setReg_user (h : userCode r = some c) (hd : s.extKind r ≠ .device) :
    (s.setReg r v).regValue r = v := by
  have hanswer (n : Nat) (w : Word) : (s.extKind r).answer n w = w := by
    cases hk : s.extKind r with
    | absent | plain => rfl
    | device => contradiction
  rw [State.setReg_user_of_ne_device h hd, State.regValue_user h]
  exact (hanswer _ _).trans (ExtRegs.userWord_withWord_self s.ext c v)

theorem State.regValue_setReg_self (s : State) (v : Word) (ha0 : r ≠ .a0) (ha1 : r ≠ .a1) (hp : r ≠ .p) (h1 : r ≠ .st1)
    (h2 : r ≠ .st2) (hd : s.extKind r ≠ .device) : (s.setReg r v).regValue r = v := by
  cases r with
  | a0 | a1 | p | st1 | st2 => contradiction
  | st0 => exact s.st0_setSt0 v
  | a0l | a1l | b0l | b1l => exact low16_accLow v
  | a0h | a1h | b0h | b1h => exact high16_accHigh v
  | ext0 | ext1 | ext2 | ext3 => exact State.regValue_setReg_user rfl hd
  | _ => rfl

theorem State.regValue_fieldWrite_ne (h : fieldWrite s r v = some t) (hq : q ≠ r) : t.regValue q = s.regValue q := by
  cases r <;> cases h <;> cases q <;> first | rfl | exact absurd rfl hq

theorem State.regValue_withWord_ne (h : userCode r = some c) (hq : q ≠ r) :
    ({ s with ext := s.ext.withWord c v } : State).regValue q = s.regValue q := by
  rcases userCode_eq_some.1 h with ⟨rfl, rfl⟩ | ⟨rfl, rfl⟩ | ⟨rfl, rfl⟩ | ⟨rfl, rfl⟩ <;>
    cases q <;> first | rfl | exact absurd rfl hq

theorem State.regValue_presentWrite (s : State) (p : Space) (a v : Word) (q : Reg) :
    (s.presentWrite p a v).regValue q = s.regValue q := by
  cases q <;> rfl

theorem State.regValue_setReg_p (s : State) (v : Word) (q : Reg) : (s.setReg .p v).regValue q = s.regValue q := by
  cases q <;> rfl

/-- A register code that names neither a status register nor an accumulator names one field, a user-defined register
or p. -/
theorem field_or_user_or_p (s : State) (hacc : accWrite r v = none) (h0 : r ≠ .st0) (h1 : r ≠ .st1) (h2 : r ≠ .st2) :
    (∃ t, fieldWrite s r v = some t) ∨ (∃ c, userCode r = some c) ∨ r = .p := by
  cases r with
  | st0 | st1 | st2 => contradiction
  | a0 | a1 | a0l | a1l | b0l | b1l | a0h | a1h | b0h | b1h => cases hacc
  | p => exact .inr (.inr rfl)
  | ext0 | ext1 | ext2 | ext3 => exact .inr (.inl ⟨_, rfl⟩)
  | _ => exact .inl ⟨_, rfl⟩

theorem State.regValue_setReg_ne (s : State) (v : Word) (hq : q ≠ r) (hacc : accWrite r v = none) (h0 : r ≠ .st0)
    (h1 : r ≠ .st1) (h2 : r ≠ .st2) : (s.setReg r v).regValue q = s.regValue q := by
  rcases field_or_user_or_p s hacc h0 h1 h2 with ⟨t, hf⟩ | ⟨c, hu⟩ | rfl
  · rw [State.setReg_of_fieldWrite hf]
    exact State.regValue_fieldWrite_ne hf hq
  · by_cases hd : s.extKind r = .device
    · rw [State.setReg_user_of_device hu hd]
      exact s.regValue_presentWrite .user c v q
    · rw [State.setReg_user_of_ne_device hu hd]
      exact State.regValue_withWord_ne hu hq
  · exact s.regValue_setReg_p v q

/-! ### The record of an instruction (R73, R503, R620, R640) -/

theorem holds_eq_condHolds (c : Cond) (s : State) : holds c s = condHolds c s.flags s.pins := by
  cases c with
  | gt => simp only [holds, condHolds, Bool.not_or]
  | _ => rfl

/-- The cycles the sequencing rules count are those of the base table (R640). -/
theorem cyclesIn_traits (i : Instr) (s : State) : (Instr.traits i).cyclesIn s = cycleCount i s := by
  cases i with
  | br c | call c | ret c | reti _ c => simp only [cycleCount, holds_eq_condHolds]; rfl
  | _ => rfl

theorem kind_writeIcr (i : Instr) : ((Instr.traits i).kind == .writeIcr) = writesIcr i := by
  cases i <;> rfl

/-- The marks for the next instruction, read off the instruction itself (R620 to R626). -/
theorem asPrevious_traits (i : Instr) : (Instr.traits i).asPrevious = marks i := by
  cases i with
  | movDirectRn n _ | movShortRn n _ => cases n <;> rfl
  | movShortExt e _ => cases e <;> rfl
  | setReg r _ | rstReg r _ | chngReg r _ | addvReg r _ | subvReg r _ | movRegReg r _ | movMixpReg r | movIndReg r _ _
  | movSpReg r | movLongReg r _ | movpLowReg _ r | popReg r => cases r <;> rfl
  | _ => rfl

theorem fourBits_eq_ofNat : ∀ a b c d : Bool,
    BitVec.ofBool a ++ BitVec.ofBool b ++ BitVec.ofBool c ++ BitVec.ofBool d =
      BitVec.ofNat 4 (8 * a.toNat + 4 * b.toNat + 2 * c.toNat + d.toNat) := by
  decide

theorem Icr.ctx_eq_contextBits (i : Icr) : i.ctx = contextBits i := fourBits_eq_ofNat i.ic2 i.ic1 i.ic0 i.nmic

/-- Neither the end of a repetition, nor of a loop, nor of a delay slot writes icr_ctx_effective or its source (R73). -/
theorem State.control_contexts (t s : State) (tr : Traits) (a : Word) :
    (t.control s tr a).svc.icrCtx = t.svc.icrCtx ∧ (t.control s tr a).icr.ctx = t.icr.ctx := by
  unfold State.control
  split
  next d _ => unfold State.endSlot State.returnTo; split_ifs <;> exact ⟨rfl, rfl⟩
  next =>
    split_ifs
    · unfold State.endRepetition; split_ifs <;> exact ⟨rfl, rfl⟩
    · unfold State.endPass; split_ifs <;> exact ⟨rfl, rfl⟩

theorem State.finish_eq (i : Instr) (s t : State) :
    t.finish s (Instr.traits i) =
      { t.control s (Instr.traits i) s.pc with
        svc := { (t.control s (Instr.traits i) s.pc).svc with
          hold := (t.finish s (Instr.traits i)).svc.hold
          started := true
          atVector := false
          prev := marks i
          icrCtx := if writesIcr i then t.svc.icrCtx else contextBits t.icr } } := by
  obtain ⟨hctx, hicr⟩ := t.control_contexts s (Instr.traits i) s.pc
  rw [← asPrevious_traits, ← kind_writeIcr, ← Icr.ctx_eq_contextBits, ← hctx, ← hicr]
  rfl

/-! ### Reset (R74, R600) -/

theorem State.resetEvent_cleared (s : State) :
    s.resetEvent.st0Low = 0 ∧ s.resetEvent.st2Low = 0 ∧ s.resetEvent.icr.low = 0 := by
  simp [State.st0Low, State.st2Low, Icr.low, State.resetEvent, Flags.zero]

theorem State.reset_cleared : State.reset.st0Low = 0 ∧ State.reset.st2Low = 0 ∧ State.reset.icr.low = 0 := by decide

theorem State.resetEvent_level (s : State) (k : Nat) : s.resetEvent.loops.level k = s.loops.level k := by
  unfold Loops.level; split <;> rfl

theorem step_of_reset (h : s.pins.reset = true) : step s = .next s.resetEvent := if_pos h

end Sys2Proof.Machine

/-! ### The obligations of 10_state.md -/

namespace Sys2Proof.Proofs

open Sys2Proof Sys2Proof.Machine Sys2Proof.Claim

/-- Settles O7, by evaluating the invariant on the one state after reset. -/
theorem invariantReset : Obligations.InvariantReset := by
  unfold Obligations.InvariantReset
  decide

/-- Settles O8: the writable bits of the status words and of icr are clear in that state, whatever the reserved bits read. -/
theorem resetValues : Obligations.ResetValues := by
  unfold Obligations.ResetValues
  obtain ⟨hst0, hst2, hicr⟩ := State.reset_cleared
  exact ⟨rfl, (State.st0_low _).trans hst0, rfl, fun b => (State.st2_low _ b).trans hst2, hicr⟩

/-- Settles O9: the step is the reset event, which writes the listed fields alone. -/
theorem resetEvent : Obligations.ResetEvent := by
  unfold Obligations.ResetEvent
  intro s hreset
  obtain ⟨hst0, hst2, hicr⟩ := s.resetEvent_cleared
  have hstatus (b : BitVec 1) : s.resetEvent.st0.extractLsb' 0 12 = 0 ∧ s.resetEvent.stat.ps = 0 ∧
      (s.resetEvent.st2 b).extractLsb' 0 10 = 0 :=
    ⟨(State.st0_low _).trans hst0, rfl, (State.st2_low _ b).trans hst2⟩
  exact ⟨s.resetEvent, step_of_reset hreset, rfl, hstatus, hicr, rfl, rfl, rfl, rfl, rfl, rfl, rfl, rfl, rfl, rfl, rfl, rfl,
    rfl, rfl, rfl, rfl, rfl, rfl, rfl, rfl, s.resetEvent_level, rfl, rfl, rfl, rfl⟩

/-- Settles O60, from the cycles and the marks of every instruction and what the loops and the delay slot leave of icr. -/
theorem instructionRecord : Obligations.InstructionRecord := by
  unfold Obligations.InstructionRecord
  exact fun i s t => ⟨cyclesIn_traits i s, State.finish_eq i s t⟩

/-- Settles O58, one lemma for each kind of register code: a field, a status register, an accumulator, p, an extX. -/
theorem registerWrite : Obligations.RegisterWrite := by
  unfold Obligations.RegisterWrite
  refine ⟨fun s r v => s.regValue_setReg_self v, ?user, fun s r v t => State.setReg_of_fieldWrite,
    fun s r => s.extKind_of_userCode_none, State.setSt0_eq, State.setSt1_eq, State.setSt2_eq,
    State.st1_setSt1, ?st2, fun s => ⟨_, _, rfl, rfl⟩, ?accs, fun s v => ⟨s.setReg_p_toNat v, rfl⟩,
    fun s r v i x => State.setReg_of_accWrite, fun s r q v => s.regValue_setReg_ne v⟩
  case user =>
    intro s r c v hc
    refine ⟨State.extKind_of_userCode hc, State.setReg_user_of_device hc, fun hplain => ?_⟩
    exact ⟨s.ext.withWord c v, State.setReg_user_of_ne_device hc (by simp [hplain]),
      s.ext.userWord_withWord_self c v, fun d hd hne => s.ext.userWord_withWord_ne v (userCode_lt hc) hd hne⟩
  case st2 =>
    intro s v b
    refine ⟨?_, (s.setSt2 v).st2_pins b⟩
    exact ((s.setSt2 v).st2_low b).trans (s.st2Low_setSt2 v)
  case accs =>
    exact fun a x => ⟨rfl, rfl, rfl, rfl, rfl, rfl, rfl, rfl⟩

end Sys2Proof.Proofs

namespace Sys2Proof.Machine

open Sys2Proof.Claim

/-! ### Flags and sums of accumulators in integers (R50, R52, R200) -/

theorem fits32_eq_not_wide (x : Acc) : fits32 x = !wide x := by
  rw [Bool.eq_iff_iff, fits32_iff, Bool.not_eq_true', ← Bool.not_eq_true]
  simp only [wide, Bool.or_eq_true, decide_eq_true_eq]
  omega

theorem Acc.beq_zero (x : Acc) : (x == 0) = decide (x.toNat = 0) := by
  rw [Bool.eq_iff_iff, beq_iff_eq, decide_eq_true_eq, ← BitVec.toNat_inj]
  rfl

theorem Flags.setZMNE_eq_zmne (f : Flags) (x : Acc) : f.setZMNE x = zmne f x := by
  simp only [Flags.setZMNE, zmne, Acc.beq_zero, BitVec.msb_eq_toInt, fits32_eq_not_wide, Bool.not_not]
  rw [Bool.and_comm (_ ^^ _)]

theorem Flags.arith_eq_sumFlags (f : Flags) (o : AluOut) : f.arith o = sumFlags f o.r o.c o.v := by
  rw [Flags.arith, Flags.setZMNE_eq_zmne]
  rfl

theorem Acc.toInt_emod (x : Acc) : x.toInt % 2 ^ 36 = x.toNat := by
  have hx := x.isLt
  rcases Acc.msb_cases x with ⟨-, h, -⟩ | ⟨-, h, -⟩ <;> omega

theorem add36_eq_plus (f : Flags) (x p : Acc) : ((add36 x p).r, f.arith (add36 x p)) = plus f x p.toInt := by
  obtain ⟨hr, hc, hv⟩ := add36_int x p
  have hcarry : (add36 x p).c = decide (2 ^ 36 ≤ (x.toNat : Int) + p.toInt % 2 ^ 36) := by
    rw [Bool.eq_iff_iff, hc, decide_eq_true_eq, Acc.toInt_emod]
    omega
  have hover : (add36 x p).v = outside36 (x.toInt + p.toInt) := by
    rw [Bool.eq_iff_iff, hv, outside36, Bool.or_eq_true, decide_eq_true_eq, decide_eq_true_eq]
  rw [Flags.arith_eq_sumFlags, hr, hcarry, hover]
  rfl

theorem sub36_eq_minus (f : Flags) (x p : Acc) : ((sub36 x p).r, f.arith (sub36 x p)) = minus f x p.toInt := by
  obtain ⟨hr, hc, hv⟩ := sub36_int x p
  have hborrow : (sub36 x p).c = decide ((x.toNat : Int) < p.toInt % 2 ^ 36) := by
    rw [Bool.eq_iff_iff, hc, decide_eq_true_eq, Acc.toInt_emod]
    omega
  have hover : (sub36 x p).v = outside36 (x.toInt - p.toInt) := by
    rw [Bool.eq_iff_iff, hv, outside36, Bool.or_eq_true, decide_eq_true_eq, decide_eq_true_eq]
  rw [Flags.arith_eq_sumFlags, hr, hborrow, hover]
  rfl

/-! ### The multiplier in integers (R34, R260, R264 to R270) -/

theorem multiply_eq_multiplied (ym xm : Sign) (y x : Word) : multiply ym xm y x = multiplied ym xm y x := by
  cases ym <;> cases xm <;> rfl

/-- A signed product has 32 bits with its sign, an unsigned one 32 without (R24). -/
theorem product_bounds (m : Multiplier) : -(2 ^ 31) ≤ product m ∧ product m < 2 ^ 32 := by
  have hlo := m.p.le_toInt
  have hhi := m.p.toInt_lt
  have hnat := m.p.isLt
  unfold product
  split <;> omega

/-- p extended to an accumulator by its hidden sign bit (R24, R34). -/
theorem extendedP_int (m : Multiplier) :
    (if m.pu then m.p.setWidth 36 else m.p.signExtend 36 : Acc).toInt = product m := by
  unfold product
  split
  · rw [BitVec.toInt_setWidth, Int.bmod_eq_of_le] <;> omega
  · exact BitVec.toInt_signExtend_of_le (by decide)

/-- No shift of p leaves 36 bits, so the shifted p is the product halved, kept, doubled or quadrupled (R34). -/
theorem shiftedP_toInt (s : State) : (shiftedP s.mul s.stat.ps).toInt = shiftedProduct s := by
  obtain ⟨hlo, hhi⟩ := product_bounds s.mul
  have hps := s.stat.ps.isLt
  have hfits (n : Int) (hn : -(2 ^ 35) ≤ n) (hn' : n < 2 ^ 35) : (BitVec.ofInt 36 n).toInt = n :=
    BitVec.toInt_ofInt_eq_self (by decide) hn hn'
  unfold shiftedP shiftedProduct
  simp only [Acc.sar_int, Acc.shl_int]
  interval_cases s.stat.ps.toNat <;> simp only [extendedP_int]
  all_goals rw [hfits] <;> omega

/-- The model's name for a way of accumulating the previous product. -/
def accModeOf (a : Accumulation) : AccMode :=
  match a with
  | .add => .add
  | .aligned => .addAligned
  | .sub => .sub

theorem accumulate_eq_accumulated (a : Accumulation) (f : Flags) (x p : Acc) :
    ((accumulate (accModeOf a) x p).r, f.arith (accumulate (accModeOf a) x p)) = accumulated a f x p.toInt := by
  cases a with
  | add => exact add36_eq_plus f x p
  | sub => exact sub36_eq_minus f x p
  | aligned =>
    have haligned : (p.sshiftRight 16).toInt = p.toInt / 65536 := by
      rw [BitVec.toInt_sshiftRight, Int.shiftRight_eq_div_pow]
      rfl
    rw [accumulated, ← haligned]
    exact add36_eq_plus f x _

section Dual

/-! ### The dual forms of the multiplies (R86, R261) -/

variable {s : State} {i : Instr} {ym xm : Sign} {j : RJ} {n : RI} {jm m : PostMod} {a : Accumulation} {d : AX}

theorem exec_of_mpyView_dual (h : mpyView i = some (ym, xm, .dual j jm n m)) :
    exec i s = mulOnly ym xm (.dual j jm n m) s := by
  unfold mpyView at h
  split at h <;> cases h <;> rfl

theorem exec_of_macView_dual (h : macView i = some (a, ym, xm, d, .dual j jm n m)) :
    exec i s = mulAcc (accModeOf a) ym xm d (.dual j jm n m) s := by
  unfold macView at h
  split at h <;> cases h <;> rfl

theorem State.dualInSpaces_eq_false (h : (s.ptr j.rn).toNat < s.chip.yramconf.toNat * 1024 ∨
    s.chip.yramconf.toNat * 1024 ≤ (s.ptr n.rn).toNat) : s.dualInSpaces j n = false := by
  unfold State.dualInSpaces Chip.inYspace Chip.upper
  rw [Bool.and_eq_false_iff, Bool.not_eq_false', decide_eq_false_iff_not, decide_eq_true_eq]
  exact h.imp_left Nat.not_le_of_lt

/-- Outside their spaces neither address is accessed, whatever stands behind it (log 8). -/
theorem readMul_dual_outside (h : s.dualInSpaces j n = false) (k : Word → Word → State → Out) :
    readMul (.dual j jm n m) s k = k (Config.freeDualY s.freeCtr) (Config.freeDualX s.freeCtr)
      { (s.bump j.rn jm).bump n.rn m with freeCtr := s.freeCtr + 1 } := by
  simp only [readMul, h]
  rfl

theorem mulOnly_dual_outside (h : s.dualInSpaces j n = false) :
    mulOnly ym xm (.dual j jm n m) s = .next
      { (s.bump j.rn jm).bump n.rn m with
        mul := multiplied ym xm (Config.freeDualY s.freeCtr) (Config.freeDualX s.freeCtr), freeCtr := s.freeCtr + 1 } := by
  rw [mulOnly, readMul_dual_outside h, multiply_eq_multiplied]

theorem mulAcc_dual_outside (h : s.dualInSpaces j n = false) :
    mulAcc (accModeOf a) ym xm d (.dual j jm n m) s = .next
      (let r := accumulated a s.flags (s.accs.get d.ab) (shiftedProduct s)
       { (s.bump j.rn jm).bump n.rn m with
         accs := s.accs.set d.ab r.1, flags := r.2
         mul := multiplied ym xm (Config.freeDualY s.freeCtr) (Config.freeDualX s.freeCtr), freeCtr := s.freeCtr + 1 }) := by
  rw [mulAcc, readMul_dual_outside h, ← shiftedP_toInt, ← accumulate_eq_accumulated, multiply_eq_multiplied]
  simp only [State.bump_accs, State.bump_flags]

end Dual

section Access

/-! ### An access by what stands behind its address (R83, R85, R96, R99, D2) -/

variable {s : State} {a c v : Word} {r : Reg}

theorem readData_of_device (h : regionKind s.chip.dataMap a = .device) (k : Word → State → Out) :
    readData s a k = k (Config.freeDevice s.freeCtr) (s.presentRead .data a) := by simp only [readData, h]

theorem readData_of_nothing (h : regionKind s.chip.dataMap a = .nothing) (k : Word → State → Out) :
    readData s a k = .refused .dataAbsent := by simp only [readData, h]

theorem readProg_of_device (h : regionKind s.chip.progMap a = .device) (k : Word → State → Out) :
    readProg s a k = k (Config.freeDevice s.freeCtr) (s.presentRead .program a) := by simp only [readProg, h]

theorem readProg_of_nothing (h : regionKind s.chip.progMap a = .nothing) (k : Word → State → Out) :
    readProg s a k = .refused .progAbsent := by simp only [readProg, h]

/-- The core goes on and the rom keeps its word (R99, log 63). -/
theorem writeData_of_rom (h : regionKind s.chip.dataMap a = .rom) (k : State → Out) :
    writeData s a v k = k s := by simp only [writeData, h]

theorem writeData_of_device (h : regionKind s.chip.dataMap a = .device) (k : State → Out) :
    writeData s a v k = k (s.presentWrite .data a v) := by simp only [writeData, h]

theorem writeData_of_nothing (h : regionKind s.chip.dataMap a = .nothing) (k : State → Out) :
    writeData s a v k = .refused .dataAbsent := by simp only [writeData, h]

theorem writeProg_of_rom (h : regionKind s.chip.progMap a = .rom) (k : State → Out) :
    writeProg s a v k = .refused .progRomWrite := by simp only [writeProg, h]

theorem writeProg_of_device (h : regionKind s.chip.progMap a = .device) (k : State → Out) :
    writeProg s a v k = k (s.presentWrite .program a v) := by simp only [writeProg, h]

theorem writeProg_of_nothing (h : regionKind s.chip.progMap a = .nothing) (k : State → Out) :
    writeProg s a v k = .refused .progAbsent := by simp only [writeProg, h]

theorem stored_setWord {m : List Host.Cell} (hm : Memory.wf m = true) (a v : Word) :
    stored m (Memory.setWord m a v) a v :=
  ⟨Memory.word_setWord hm a v, Memory.get_setWord hm a v⟩

/-! ### Registers the chip has and lacks (R38, R62, R330, D12) -/

theorem State.extKind_eq_absent_iff :
    s.extKind r = .absent ↔ ∃ c, userCode r = some c ∧ userKind s.chip c = .absent := by
  constructor
  · intro h
    cases hc : userCode r with
    | none => exact absurd ((s.extKind_of_userCode_none hc).symm.trans h) (by decide)
    | some c => exact ⟨c, rfl, (State.extKind_of_userCode hc).symm.trans h⟩
  · rintro ⟨c, hc, hk⟩
    exact (State.extKind_of_userCode hc).trans hk

theorem State.hasReg_eq_false_iff : s.hasReg r = false ↔ s.extKind r = .absent := bne_eq_false_iff_eq

theorem is16_of_userCode (h : userCode r = some c) : r.is16 = true := by
  rcases userCode_eq_some.1 h with ⟨rfl, -⟩ | ⟨rfl, -⟩ | ⟨rfl, -⟩ | ⟨rfl, -⟩ <;> rfl

theorem part_of_userCode (h : userCode r = some c) : Reg.part r = none := by
  rcases userCode_eq_some.1 h with ⟨rfl, -⟩ | ⟨rfl, -⟩ | ⟨rfl, -⟩ | ⟨rfl, -⟩ <;> rfl

theorem accWrite_of_userCode (h : userCode r = some c) : accWrite r v = none := by
  rcases userCode_eq_some.1 h with ⟨rfl, -⟩ | ⟨rfl, -⟩ | ⟨rfl, -⟩ | ⟨rfl, -⟩ <;> rfl

theorem State.hasReg_of_userCode (h : userCode r = some c) (hk : userKind s.chip c ≠ .absent) : s.hasReg r = true := by
  rw [← Bool.not_eq_false, State.hasReg_eq_false_iff, State.extKind_of_userCode h]
  exact hk

/-- The accesses to a register the chip lacks are refused; it is an extX, so it has 16 bits and is no part. -/
theorem accesses_of_absent (h : s.hasReg r = false) (k : Word → State → Out) :
    readReg s r k = .refused .extAbsent ∧ readMovSource s r k = .refused .extAbsent ∧
      writeMovDest s r v = .refused .extAbsent := by
  obtain ⟨c, hc, -⟩ := State.extKind_eq_absent_iff.1 (State.hasReg_eq_false_iff.1 h)
  have hread : readReg s r k = .refused .extAbsent := by simp [readReg, is16_of_userCode hc, h]
  refine ⟨hread, ?_, by simp [writeMovDest, h]⟩
  rw [readMovSource, part_of_userCode hc]
  exact hread

theorem acc_eq_accWrite (r : Reg) (v : Word) : Reg.acc r = (accWrite r v).map Prod.fst := by cases r <;> rfl

/-- Z, M, N, E describe an accumulator that is written, whole or in part (R330). -/
theorem State.movReg_eq_landed (s : State) (r : Reg) (v : Word) : s.movReg r v = landed s r v := by
  unfold State.movReg landed
  rw [acc_eq_accWrite r v]
  cases h : accWrite r v with
  | none => rfl
  | some w =>
    simp only [Option.map_some, State.setReg_of_accWrite h, Flags.setZMNE_eq_zmne, Accs.get_set_self]

theorem writeMovDest_of_hasReg (h : s.hasReg r = true) : writeMovDest s r v = .next (landed s r v) := by
  rw [writeMovDest, if_pos h, State.movReg_eq_landed]

theorem State.afterRead_user (h : userCode r = some c) :
    s.afterRead r = if userKind s.chip c = .device then s.presentRead .user c else s := by
  rw [← State.extKind_of_userCode h]
  rcases userCode_eq_some.1 h with ⟨rfl, rfl⟩ | ⟨rfl, rfl⟩ | ⟨rfl, rfl⟩ | ⟨rfl, rfl⟩ <;> rfl

theorem State.afterRead_of_userCode_none (s : State) (h : userCode r = none) :
    s.afterRead r = if r = .st1 ∨ r = .st2 then { s with freeCtr := s.freeCtr + 1 } else s := by
  rw [State.afterRead, s.extKind_of_userCode_none h]
  rfl

theorem readReg_user_of_device (h : userCode r = some c) (hk : userKind s.chip c = .device) (k : Word → State → Out) :
    readReg s r k = k (Config.freeDevice s.freeCtr) (s.presentRead .user c) := by
  rw [readReg_of_ready (is16_of_userCode h) (State.hasReg_of_userCode h (by simp [hk])), State.regValue_user h,
    State.extKind_of_userCode h, State.afterRead_user h, hk]
  rfl

theorem readReg_user_of_plain (h : userCode r = some c) (hk : userKind s.chip c = .plain) (k : Word → State → Out) :
    readReg s r k = k (userWord s.ext c) s := by
  rw [readReg_of_ready (is16_of_userCode h) (State.hasReg_of_userCode h (by simp [hk])), State.regValue_user h,
    State.extKind_of_userCode h, State.afterRead_user h, hk]
  rfl

theorem writeMovDest_user (h : userCode r = some c) (hk : userKind s.chip c ≠ .absent) :
    writeMovDest s r v = .next (s.setReg r v) := by
  rw [writeMovDest_of_hasReg (State.hasReg_of_userCode h hk), landed, accWrite_of_userCode h]

theorem writeMovDest_user_of_device (h : userCode r = some c) (hk : userKind s.chip c = .device) :
    writeMovDest s r v = .next (s.presentWrite .user c v) := by
  rw [writeMovDest_user h (by simp [hk]), State.setReg_user_of_device h ((State.extKind_of_userCode h).trans hk)]

theorem writeMovDest_user_of_plain (h : userCode r = some c) (hk : userKind s.chip c = .plain) :
    writeMovDest s r v = .next { s with ext := s.ext.withWord c v } := by
  rw [writeMovDest_user h (by simp [hk]), State.setReg_user_of_ne_device h (by simp [State.extKind_of_userCode h, hk])]

end Access

section Modulo

/-! ### The modulo step (R106, R107, D8) -/

variable {modx k low top b : Nat} {q : Int}

/-- The bits that the modulo unit works on: the model's logarithm is the least exponent of D8. -/
theorem moduloBits_of_moduloWidth (hmod : modx ≠ 0) (h : moduloWidth modx q k) : moduloBits modx q = k := by
  unfold moduloBits
  rcases h with hpow | ⟨hnot, hlt, hleast⟩
  · simp [hpow, Nat.log2_two_pow]
  · rw [if_neg fun heq => hnot _ heq.symm]
    cases k with
    | zero => omega
    | succ j => rw [(Nat.log2_eq_iff hmod).2 ⟨hleast j j.lt_succ_self, hlt⟩]

/-- MOD has nine bits and |q| at most 64, so at most nine bits of the pointer can change. -/
theorem moduloWidth_le_nine (h : moduloWidth modx q k) (hq : q.natAbs ≤ 64) (hmod : modx < 512) : k ≤ 9 := by
  by_contra hk
  rcases h with hpow | ⟨-, -, hleast⟩
  · have hbig : 2 ^ 10 ≤ 2 ^ k := Nat.pow_le_pow_right (by decide) (by omega)
    omega
  · have hbig := hleast 9 (by omega)
    omega

/-- The new low bits of the pointer, from the old ones, the offset of the top of the buffer, 2^k and the step. -/
def moduloLow (low top b : Nat) (q : Int) : Nat :=
  if low = top ∧ 0 ≤ q then 0
  else if low = 0 ∧ q < 0 then top
  else (((low : Int) + q) % (b : Int)).toNat

theorem moduloLow_forward_top (hq : 0 ≤ q) : moduloLow top top b q = 0 := if_pos ⟨rfl, hq⟩

theorem moduloLow_backward_base (hq : q < 0) : moduloLow 0 top b q = top := by
  rw [moduloLow, if_neg (by omega), if_pos ⟨rfl, hq⟩]

theorem moduloLow_inside (h : (0 ≤ q ∧ low ≠ top) ∨ (q < 0 ∧ low ≠ 0)) :
    moduloLow low top b q = (((low : Int) + q) % (b : Int)).toNat := by
  rw [moduloLow, if_neg (by omega), if_neg (by omega)]

theorem moduloLow_lt (htop : top < b) : moduloLow low top b q < b := by
  have hlt : ((low : Int) + q) % (b : Int) < b := Int.emod_lt_of_pos _ (by omega)
  unfold moduloLow
  split_ifs <;> omega

/-- R107: steps that divide the buffer and the offset reach its top or its base and never pass them. -/
theorem moduloLow_lt_of_dvd (hlow : low < b) (htop : top < b) (hbuf : low < top + q.natAbs) (hq : q ≠ 0)
    (hdvd : q.natAbs ∣ top) (hdvd' : q.natAbs ∣ low) : moduloLow low top b q < top + q.natAbs := by
  by_cases hedge : (0 ≤ q ∧ low ≠ top) ∨ (q < 0 ∧ low ≠ 0)
  · rw [moduloLow_inside hedge]
    rcases hedge with ⟨hpos, hne⟩ | ⟨hneg, hne⟩
    · have hle : low ≤ top := Nat.le_of_lt_add_of_dvd hbuf hdvd' hdvd
      have hnext : low + q.natAbs ≤ top :=
        Nat.le_of_lt_add_of_dvd (by omega) (Nat.dvd_add_self_right.2 hdvd') hdvd
      rw [Int.emod_eq_of_lt (by omega) (by omega)]
      omega
    · have hle : q.natAbs ≤ low := Nat.le_of_dvd (by omega) hdvd'
      rw [Int.emod_eq_of_lt (by omega) (by omega)]
      omega
  · unfold moduloLow
    split_ifs <;> omega

/-- The new pointer: the bits above the lowest k are kept. -/
theorem moduloStep_toNat (r : Word) (hmod : modx ≠ 0) (h : moduloWidth modx q k) (hk : k ≤ 16) :
    (moduloStep r q modx).toNat =
      2 ^ k * (r.toNat / 2 ^ k) + moduloLow (r.toNat % 2 ^ k) (modx % 2 ^ k) (2 ^ k) q := by
  have hlow : moduloLow (r.toNat % 2 ^ k) (modx % 2 ^ k) (2 ^ k) q < 2 ^ k := moduloLow_lt (Nat.mod_lt _ (by positivity))
  have hroom : 2 ^ k * (r.toNat / 2 ^ k) + 2 ^ k ≤ 2 ^ 16 := by
    have hsplit : 2 ^ k * 2 ^ (16 - k) = 2 ^ 16 := by rw [← pow_add, Nat.add_sub_cancel' hk]
    have hhigh : r.toNat / 2 ^ k < 2 ^ (16 - k) := Nat.div_lt_of_lt_mul (hsplit ▸ r.isLt)
    calc 2 ^ k * (r.toNat / 2 ^ k) + 2 ^ k = 2 ^ k * (r.toNat / 2 ^ k + 1) := rfl
      _ ≤ 2 ^ k * 2 ^ (16 - k) := Nat.mul_le_mul_left _ hhigh
      _ = 2 ^ 16 := hsplit
  have hstep : moduloStep r q modx = BitVec.ofNat 16
      (r.toNat / 2 ^ k * 2 ^ k + moduloLow (r.toNat % 2 ^ k) (modx % 2 ^ k) (2 ^ k) q) := by
    rw [moduloStep, if_neg hmod, moduloBits_of_moduloWidth hmod h]
    rfl
  rw [hstep, BitVec.toNat_ofNat, Nat.mod_eq_of_lt, Nat.mul_comm]
  rw [Nat.mul_comm]
  omega

theorem moduloStep_high_low (r : Word) (hmod : modx ≠ 0) (h : moduloWidth modx q k) (hk : k ≤ 16) :
    (moduloStep r q modx).toNat / 2 ^ k = r.toNat / 2 ^ k ∧
    (moduloStep r q modx).toNat % 2 ^ k = moduloLow (r.toNat % 2 ^ k) (modx % 2 ^ k) (2 ^ k) q := by
  have hlow : moduloLow (r.toNat % 2 ^ k) (modx % 2 ^ k) (2 ^ k) q < 2 ^ k := moduloLow_lt (Nat.mod_lt _ (by positivity))
  rw [moduloStep_toNat r hmod h hk]
  constructor
  · rw [Nat.mul_add_div (by positivity), Nat.div_eq_of_lt hlow, Nat.add_zero]
  · rw [Nat.mul_add_mod_self_left, Nat.mod_eq_of_lt hlow]

/-- R107: under its constraints a pointer inside the buffer of MOD + |q| words stays inside. -/
theorem moduloLow_in_buffer (h : moduloWidth modx q k) (hlow : low < 2 ^ k) (hbuf : low < modx + q.natAbs)
    (hcons : modx + q.natAbs = 2 ^ k ∨ (q ≠ 0 ∧ q.natAbs ∣ modx ∧ q.natAbs ∣ low)) :
    moduloLow low (modx % 2 ^ k) (2 ^ k) q < modx + q.natAbs := by
  by_cases hpow : modx + q.natAbs = 2 ^ k
  · rw [hpow]
    exact moduloLow_lt (Nat.mod_lt _ (by positivity))
  · obtain ⟨hq, hdvd, hdvd'⟩ := hcons.resolve_left hpow
    obtain ⟨-, hlt, -⟩ := h.resolve_left hpow
    rw [Nat.mod_eq_of_lt hlt]
    exact moduloLow_lt_of_dvd hlow hlt hbuf hq hdvd hdvd'

end Modulo

end Sys2Proof.Machine

/-! ### The obligations of 20_memory.md -/

namespace Sys2Proof.Proofs

open Sys2Proof Sys2Proof.Machine Sys2Proof.Claim

/-- Settles O30: outside the spaces the operands are the two free values, and the previous product enters as in R264. -/
theorem dualOutsideSpaces : Obligations.DualOutsideSpaces := by
  unfold Obligations.DualOutsideSpaces
  intro i ym xm j jm n m s hspaces
  have hout := State.dualInSpaces_eq_false hspaces
  constructor
  · intro hview
    exact ⟨_, _, (exec_of_mpyView_dual hview).trans (mulOnly_dual_outside hout)⟩
  · intro a d hview
    exact ⟨_, _, (exec_of_macView_dual hview).trans (mulAcc_dual_outside hout)⟩

/-- Settles O44, by the kind of region behind the address and by what the chip makes of the register. -/
theorem accessStops : Obligations.AccessStops := by
  unfold Obligations.AccessStops
  refine ⟨?reads, ?writes, ?registers, ?absent, ?user, fun s r => s.afterRead_of_userCode_none⟩
  case reads =>
    exact fun s a k => ⟨fun h => readData_of_readable h k, fun h => ⟨_, readData_of_device h k⟩,
      fun h => readData_of_nothing h k, fun h => readProg_of_readable h k, fun h => ⟨_, readProg_of_device h k⟩,
      fun h => readProg_of_nothing h k⟩
  case writes =>
    exact fun s a v k =>
      ⟨fun h => ⟨_, writeData_of_writable h k, fun hwf => stored_setWord hwf a v⟩, fun h => writeData_of_rom h k,
        fun h => writeData_of_device h k, fun h => writeData_of_nothing h k,
        fun h => ⟨_, writeProg_of_writable h k, fun hwf => stored_setWord hwf a v⟩, fun h => writeProg_of_rom h k,
        fun h => writeProg_of_device h k, fun h => writeProg_of_nothing h k⟩
  case registers =>
    exact fun s r v k => ⟨fun habsent => accesses_of_absent habsent k,
      fun hhas => ⟨fun h16 => readReg_of_ready h16 hhas k, writeMovDest_of_hasReg hhas⟩⟩
  case absent =>
    exact fun s r => State.hasReg_eq_false_iff.trans State.extKind_eq_absent_iff
  case user =>
    intro s r c v k hc
    refine ⟨fun hdevice => ⟨⟨_, readReg_user_of_device hc hdevice k⟩, writeMovDest_user_of_device hc hdevice⟩,
      fun hplain => ⟨readReg_user_of_plain hc hplain k, ?_⟩⟩
    exact ⟨s.ext.withWord c v, writeMovDest_user_of_plain hc hplain, s.ext.userWord_withWord_self c v,
      fun d hd hne => s.ext.userWord_withWord_ne v (userCode_lt hc) hd hne⟩

/-- Settles O56: the quotient by 2^k is kept, and each clause is one of the cases of the new remainder. -/
theorem moduloStep : Obligations.ModuloStep := by
  unfold Obligations.ModuloStep
  intro r q modx k hlo hhi hmax
  refine ⟨fun hzero => if_pos hzero, fun hmod hwidth => ?_⟩
  have hk := moduloWidth_le_nine hwidth (by omega) hmax
  obtain ⟨hhigh, hlow⟩ := moduloStep_high_low r hmod hwidth (by omega)
  rw [hlow]
  refine ⟨hhigh, fun hq htop => ?_, fun hq hbase => ?_, fun hinside => ?_, ?_⟩
  · rw [htop, moduloLow_forward_top hq]
  · rw [hbase, moduloLow_backward_base hq]
  · rw [moduloLow_inside hinside, Int.toNat_of_nonneg (Int.emod_nonneg _ (by positivity))]
    push_cast
    rfl
  · exact moduloLow_in_buffer hwidth (Nat.mod_lt _ (by positivity))

end Sys2Proof.Proofs

namespace Sys2Proof

open Sys2Proof.Claim

/-! ### Codes and fields (R132 to R149) -/

@[simp] theorem AX.code_ofCode (c : BitVec 1) : (AX.ofCode c).code = c := by revert c; decide
@[simp] theorem BX.code_ofCode (c : BitVec 1) : (BX.ofCode c).code = c := by revert c; decide
@[simp] theorem AB.code_ofCode (c : BitVec 2) : (AB.ofCode c).code = c := by revert c; decide
@[simp] theorem AccPart.code_ofCode (c : BitVec 3) : (AccPart.ofCode c).code = c := by revert c; decide
@[simp] theorem PostMod.code_ofCode (c : BitVec 2) : (PostMod.ofCode c).code = c := by revert c; decide
@[simp] theorem PostMod.movrCode_ofMovrCode (c : BitVec 2) : (PostMod.ofMovrCode c).movrCode = c := by revert c; decide
@[simp] theorem RNStar.code_ofCode (c : BitVec 3) : (RNStar.ofCode c).code = c := by revert c; decide
@[simp] theorem RI.code_ofCode (c : BitVec 2) : (RI.ofCode c).code = c := by revert c; decide
@[simp] theorem RJ.code_ofCode (c : BitVec 1) : (RJ.ofCode c).code = c := by revert c; decide
@[simp] theorem Reg.code_ofCode (c : BitVec 5) : (Reg.ofCode c).code = c := by revert c; decide
@[simp] theorem Cond.code_ofCode (c : BitVec 4) : (Cond.ofCode c).code = c := by revert c; decide
@[simp] theorem MaxCond.code_ofCode (c : BitVec 1) : (MaxCond.ofCode c).code = c := by revert c; decide
@[simp] theorem MinCond.code_ofCode (c : BitVec 1) : (MinCond.ofCode c).code = c := by revert c; decide
@[simp] theorem LimOp.code_ofCode (c : BitVec 2) : (LimOp.ofCode c).code = c := by revert c; decide
@[simp] theorem MovrPtr.code_ofCode (c : BitVec 2) : (MovrPtr.ofCode c).code = c := by revert c; decide
@[simp] theorem ExtReg.code_ofCode (c : BitVec 2) : (ExtReg.ofCode c).code = c := by revert c; decide

theorem RN.code_of_ofCode {c : BitVec 3} {n : RN} : RN.ofCode c = some n → n.code = c := by revert c n; decide
theorem RN.ofCode_eq_none_iff {c : BitVec 3} : RN.ofCode c = none ↔ 6 ≤ c.toNat := by revert c; decide
theorem SwapOp.code_of_ofCode {c : BitVec 4} {o : SwapOp} : SwapOp.ofCode c = some o → o.code = c := by revert c o; decide
theorem SwapOp.ofCode_eq_none_iff {c : BitVec 4} : SwapOp.ofCode c = none ↔ 14 ≤ c.toNat := by revert c; decide

@[simp] theorem AX.ofCode_code (x : AX) : AX.ofCode x.code = x := by cases x <;> rfl
@[simp] theorem BX.ofCode_code (x : BX) : BX.ofCode x.code = x := by cases x <;> rfl
@[simp] theorem AB.ofCode_code (x : AB) : AB.ofCode x.code = x := by cases x <;> rfl
@[simp] theorem PostMod.ofCode_code (x : PostMod) : PostMod.ofCode x.code = x := by cases x <;> rfl
@[simp] theorem RN.ofCode_code (x : RN) : RN.ofCode x.code = some x := by cases x <;> rfl
@[simp] theorem Reg.ofCode_code (x : Reg) : Reg.ofCode x.code = x := by cases x <;> rfl

/-! ### Fields of a word -/

theorem put_getLsbD (lo : Nat) {n : Nat} (c : BitVec n) (k : Nat) :
    (put lo c).getLsbD k = (decide (k < 16) && (decide (lo ≤ k) && c.getLsbD (k - lo))) := by
  unfold put
  rw [BitVec.getLsbD_shiftLeft, BitVec.getLsbD_setWidth]
  by_cases hk : k < 16
  · by_cases hlo : lo ≤ k
    · simp [hk, hlo, Nat.not_lt.2 hlo, show k - lo < 16 by omega]
    · simp [hlo, Nat.lt_of_not_le hlo]
  · simp [hk]

theorem fld_getLsbD (w : Word) (lo n k : Nat) : (fld w lo n).getLsbD k = (decide (k < n) && w.getLsbD (lo + k)) := by
  rw [fld, BitVec.getLsbD_extractLsb']

/-- A field of w put back where it was read. -/
theorem put_fld (w : Word) (lo n : Nat) : put lo (fld w lo n) = w &&& put lo (BitVec.allOnes n) := by
  refine BitVec.eq_of_getLsbD_eq fun k hk => ?_
  rw [BitVec.getLsbD_and, put_getLsbD, put_getLsbD, fld_getLsbD, BitVec.getLsbD_allOnes]
  by_cases hlo : lo ≤ k
  · rw [Nat.add_sub_cancel' hlo]
    simp [hk, hlo, Bool.and_comm]
  · simp [hlo]

theorem fld_or (w u : Word) (lo n : Nat) : fld (w ||| u) lo n = fld w lo n ||| fld u lo n := BitVec.extractLsb'_or

theorem fld_put_self {lo n : Nat} (c : BitVec n) (h : lo + n ≤ 16) : fld (put lo c) lo n = c := by
  refine BitVec.eq_of_getLsbD_eq fun k hk => ?_
  rw [fld_getLsbD, put_getLsbD]
  simp [hk, show lo + k < 16 by omega]

theorem fld_put_apart {lo n lo' n' : Nat} (c : BitVec n) (h : lo + n ≤ lo' ∨ lo' + n' ≤ lo) :
    fld (put lo c) lo' n' = 0#n' := by
  refine BitVec.eq_of_getLsbD_eq fun k hk => ?_
  rw [fld_getLsbD, put_getLsbD, BitVec.getLsbD_zero]
  rcases h with h | h
  · simp [BitVec.getLsbD_of_ge c (lo' + k - lo) (by omega)]
  · simp [show ¬ lo ≤ lo' + k by omega]

theorem fld_eq_zero {w : Word} {lo n : Nat} (h : w.extractLsb' lo n = 0#n) : fld w lo n = 0#n := h

theorem put_and_eq_zero {lo n : Nat} {c : BitVec n} {m : Word} (h : fld m lo n = 0#n) : put lo c &&& m = 0#16 := by
  refine BitVec.eq_of_getLsbD_eq fun k hk => ?_
  rw [BitVec.getLsbD_and, put_getLsbD, BitVec.getLsbD_zero]
  by_cases hlo : lo ≤ k
  · by_cases hn : k - lo < n
    · have hm : (fld m lo n).getLsbD (k - lo) = false := by rw [h, BitVec.getLsbD_zero]
      rw [fld_getLsbD, Nat.add_sub_cancel' hlo] at hm
      simp_all
    · simp [BitVec.getLsbD_of_ge c (k - lo) (by omega)]
  · simp [hlo]

/-- The fixed bits of a pattern and the fields of w make up the bits of w that the mask and the fields reach. -/
theorem or_and_fields {w m b b' F K : Word} (h : w &&& m = b) (hb : b &&& K = b') (hF : m &&& K ||| F = K) :
    b' ||| w &&& F = w &&& K := by
  rw [← hb, ← h, BitVec.and_assoc, ← BitVec.and_or_distrib_left, hF]

theorem fld_toNat (w : Word) (n : Nat) : (fld w 0 n).toNat = w.toNat % 2 ^ n := by
  simp [fld]

theorem and_two_pow_cases (w i : Nat) : w &&& 2 ^ i = 0 ∨ w &&& 2 ^ i = 2 ^ i := by
  rw [Nat.and_two_pow]
  cases w.testBit i <;> simp

/-- The words `0100100110......` of `swap` (R153). -/
theorem swap_range_iff {w : Word} : w.toNat &&& 0xFFC0 = 0x4980 ↔ 0x4980 ≤ w.toNat ∧ w.toNat < 0x49C0 := by
  have hw := w.isLt
  have hhigh : (w.toNat &&& 0xFFC0) / 2 ^ 6 = w.toNat / 2 ^ 6 % 2 ^ 10 := by
    rw [Nat.and_div_two_pow, ← Nat.and_two_pow_sub_one_eq_mod]
  have hlow : (w.toNat &&& 0xFFC0) % 2 ^ 6 = 0 := by
    rw [Nat.and_mod_two_pow, Nat.and_zero]
  omega

/-- A word of `min` by its ignored bits 10 and 2; with 0 and 1 there it is `movr (rN), abXh` (R157). -/
theorem min_cases {w : Word} (h : w.toNat &&& 0xF8E0 = 0x8860) :
    w.toNat &&& 0xFCE0 = 0x8C60 ∨ w.toNat &&& 0xFCE4 = 0x8860 ∨ w.toNat &&& 0xFCE4 = 0x8864 := by
  have hbit10 : w.toNat &&& 0xFCE0 = (w.toNat &&& 0xF8E0) ||| (w.toNat &&& 2 ^ 10) := by
    rw [← Nat.and_or_distrib_left]; rfl
  have hbit2 : w.toNat &&& 0xFCE4 = (w.toNat &&& 0xFCE0) ||| (w.toNat &&& 2 ^ 2) := by
    rw [← Nat.and_or_distrib_left]; rfl
  rw [hbit2, hbit10, h]
  rcases and_two_pow_cases w.toNat 10 with h10 | h10
  · rcases and_two_pow_cases w.toNat 2 with h2 | h2 <;> rw [h10, h2] <;> decide
  · rw [h10]; exact .inl rfl

theorem and_or_of_or_eq {w g k : Nat} (hw : w < 2 ^ 16) (hg : g < 2 ^ 16) (hk : k ||| g = 0xFFFF) :
    (w &&& k) ||| g = w ||| g := by
  rw [Nat.or_and_distrib_right, hk]
  exact Nat.and_two_pow_sub_one_of_lt_two_pow (Nat.or_lt_two_pow hw hg)

theorem ofBool_flagBit (w : Word) (k : Nat) : BitVec.ofBool (flagBit w k) = fld w k 1 := by
  refine BitVec.eq_of_getLsbD_eq fun j hj => ?_
  obtain rfl : j = 0 := by omega
  rw [fld_getLsbD]
  simp [flagBit]

theorem highBit_append : ∀ a b : BitVec 1, (a ++ b).extractLsb' 1 1 = a := by decide
theorem lowBit_append : ∀ a b : BitVec 1, (a ++ b).extractLsb' 0 1 = b := by decide

/-! ### The first row that a word has (R150, R156, R157) -/

/-- The first word w has the pattern of the row (R150). -/
def Row.Has (r : Row) (w : Word) : Prop := w.toNat &&& r.mask = r.bits

/-- No word has both patterns: they disagree on a bit that both fix. -/
abbrev Row.Apart (r q : Row) : Prop := r.bits &&& q.mask ≠ q.bits &&& r.mask

theorem and_comm_of_and_eq {w m b m' b' : Nat} (h : w &&& m = b) (h' : w &&& m' = b') : b &&& m' = b' &&& m := by
  rw [← h, ← h', Nat.and_right_comm]

theorem Row.Apart.not_has {r q : Row} (h : r.Apart q) {w : Word} (hr : r.Has w) : ¬ q.Has w :=
  fun hq => h (and_comm_of_and_eq hr hq)

theorem findRow_cons_of_has {r : Row} {w : Word} (h : r.Has w) (l : List Row) : findRow w.toNat (r :: l) = some r := by
  have : Nat.beq (Nat.land w.toNat r.mask) r.bits = true := by rw [Nat.beq_eq]; exact h
  rw [findRow, this, cond_true]

theorem findRow_cons_of_not_has {r : Row} {w : Word} (h : ¬ r.Has w) (l : List Row) :
    findRow w.toNat (r :: l) = findRow w.toNat l := by
  have : Nat.beq (Nat.land w.toNat r.mask) r.bits = false := Bool.eq_false_iff.2 fun hb => h (Nat.eq_of_beq_eq_true hb)
  rw [findRow, this, cond_false]

theorem findRow_eq_none_iff {w : Word} {l : List Row} : findRow w.toNat l = none ↔ ∀ r ∈ l, ¬ r.Has w := by
  induction l with
  | nil => simp [findRow]
  | cons q l ih =>
    by_cases h : q.Has w
    · simp [findRow_cons_of_has h, h]
    · simp [findRow_cons_of_not_has h, h, ih]

theorem mem_of_findRow {w : Word} {l : List Row} {r : Row} (hf : findRow w.toNat l = some r) : r ∈ l ∧ r.Has w := by
  induction l with
  | nil => cases hf
  | cons q l ih =>
    by_cases h : q.Has w
    · rw [findRow_cons_of_has h] at hf
      cases hf
      exact ⟨.head l, h⟩
    · rw [findRow_cons_of_not_has h] at hf
      exact ⟨.tail q (ih hf).1, (ih hf).2⟩

theorem findRow_of_mem {w : Word} {l : List Row} (hl : l.Pairwise Row.Apart) {r : Row} (hr : r ∈ l) (hw : r.Has w) :
    findRow w.toNat l = some r := by
  induction hl with
  | nil => cases hr
  | @cons q l hq _ ih =>
    rcases List.mem_cons.1 hr with rfl | hr
    · exact findRow_cons_of_has hw l
    · rw [findRow_cons_of_not_has fun hqw => (hq r hr).not_has hqw hw, ih hr]

/-- No two rows of the table have a word in common (R156, R157). -/
theorem rows_pairwise_apart : rows.Pairwise Row.Apart := by decide +kernel

theorem findRow_rows_eq_some_iff {w : Word} {r : Row} : findRow w.toNat rows = some r ↔ r ∈ rows ∧ r.Has w :=
  ⟨mem_of_findRow, fun h => findRow_of_mem rows_pairwise_apart h.1 h.2⟩

/-! ### What the decoder answers, by the rows of the table (R158, R159) -/

section Decode

variable {w v : Word} {i : Instr} {r : Row}

theorem decode_of_parse_none (hr : r ∈ rows) (hw : r.Has w) (hp : r.parse w v = none) :
    decode w v = .error .reservedField := by
  simp [decode, findRow_rows_eq_some_iff.2 ⟨hr, hw⟩, hp]

theorem decode_of_parse_some (hr : r ∈ rows) (hw : r.Has w) (hp : r.parse w v = some i) :
    decode w v = if i.wellFormed then .ok i else .error .excludedOperand := by
  simp [decode, findRow_rows_eq_some_iff.2 ⟨hr, hw⟩, hp]

/-- Everything the decoder can do. -/
theorem decode_cases (w v : Word) :
    ((∀ r ∈ rows, ¬ r.Has w) ∧ decode w v = .error .noPattern) ∨
    ∃ r ∈ rows, r.Has w ∧ ((r.parse w v = none ∧ decode w v = .error .reservedField) ∨
      ∃ i, r.parse w v = some i ∧ decode w v = if i.wellFormed then .ok i else .error .excludedOperand) := by
  cases hf : findRow w.toNat rows with
  | none => exact .inl ⟨findRow_eq_none_iff.1 hf, by simp [decode, hf]⟩
  | some r =>
    obtain ⟨hr, hw⟩ := mem_of_findRow hf
    refine .inr ⟨r, hr, hw, ?_⟩
    cases hp : r.parse w v with
    | none => exact .inl ⟨rfl, decode_of_parse_none hr hw hp⟩
    | some i => exact .inr ⟨i, rfl, decode_of_parse_some hr hw hp⟩

theorem decode_eq_noPattern_iff : decode w v = .error .noPattern ↔ ∀ r ∈ rows, ¬ r.Has w := by
  refine ⟨fun h => ?_, fun h => by simp [decode, findRow_eq_none_iff.2 h]⟩
  rcases decode_cases w v with ⟨hn, -⟩ | ⟨r, -, -, ⟨-, hd⟩ | ⟨i, -, hd⟩⟩
  · exact hn
  · simp [hd] at h
  · rw [hd] at h
    split_ifs at h
    simp at h

theorem decode_eq_reservedField_iff :
    decode w v = .error .reservedField ↔ ∃ r ∈ rows, r.Has w ∧ r.parse w v = none := by
  refine ⟨fun h => ?_, fun ⟨r, hr, hw, hp⟩ => decode_of_parse_none hr hw hp⟩
  rcases decode_cases w v with ⟨-, hd⟩ | ⟨r, hr, hw, ⟨hp, -⟩ | ⟨i, -, hd⟩⟩
  · simp [hd] at h
  · exact ⟨r, hr, hw, hp⟩
  · rw [hd] at h
    split_ifs at h
    simp at h

theorem decode_eq_ok_iff :
    decode w v = .ok i ↔ ∃ r ∈ rows, r.Has w ∧ r.parse w v = some i ∧ i.WellFormed := by
  refine ⟨fun h => ?_, fun ⟨r, hr, hw, hp, hi⟩ => by rw [decode_of_parse_some hr hw hp, if_pos hi]⟩
  rcases decode_cases w v with ⟨-, hd⟩ | ⟨r, hr, hw, ⟨-, hd⟩ | ⟨j, hp, hd⟩⟩
  · simp [hd] at h
  · simp [hd] at h
  · rw [hd] at h
    split_ifs at h with hj
    cases h
    exact ⟨r, hr, hw, hp, hj⟩

end Decode

/-! ### Rows and patterns -/

/-- The bits of a first word that the pattern does not ignore. -/
def keptBits (p : Pattern) : Word := ~~~BitVec.ofNat 16 p.ignored

/-- w has a code that is not defined in a field of the row: in an rN field (R137), in the option of `swap` (R149). -/
def Row.Undefined (r : Row) (pointer : Bool) (w : Word) : Prop :=
  pointer = true ∧ 6 ≤ w.toNat % 8 ∨ r.mask = 0xFFC0 ∧ r.bits = 0x4980 ∧ 14 ≤ w.toNat % 16

/-- The pattern fixes no bit that a row with this mask does not fix in the same way. -/
def within (mask bits : Nat) (p : Pattern) : Bool := mask &&& p.mask == p.mask && bits &&& p.mask == p.bits

/-- The row reads words of the pattern: it refuses undefined codes alone, and the encoder gives back the words it read, with
the ignored bits clear. -/
structure Row.ReadsAs (r : Row) (p : Pattern) : Prop where
  within_eq : within r.mask r.bits p = true
  parse_eq_none_iff : ∀ w v, r.parse w v = none ↔ r.Undefined p.pointer w
  encodeFirst_eq : ∀ w v i, r.Has w → r.parse w v = some i → encodeFirst i = w &&& keptBits p
  encodeSecond_eq : ∀ w v i u, r.parse w v = some i → encodeSecond i = some u → u = v

/-- The row reads words of a pattern of the tables. -/
def Row.Reads (r : Row) : Prop := ∃ p ∈ patterns, r.ReadsAs p

theorem Row.Has.and_eq {r : Row} {w : Word} (h : r.Has w) : w &&& BitVec.ofNat 16 r.mask = BitVec.ofNat 16 r.bits := by
  rw [← h, BitVec.ofNat_and, BitVec.ofNat_toNat, BitVec.setWidth_eq]

theorem has_of_within {r : Row} {p : Pattern} (h : within r.mask r.bits p = true) {w : Word} (hw : r.Has w) : p.has w := by
  simp only [within, Bool.and_eq_true, beq_iff_eq] at h
  rw [Pattern.has, ← h.1, ← h.2, ← Nat.and_assoc, hw]

/-- The fixed bits that the pattern does not ignore are `base`, and with `fields` they are all that it does not ignore. -/
def exhausts (mask bits : Nat) (base fields : Word) (p : Pattern) : Bool :=
  BitVec.ofNat 16 bits &&& keptBits p == base && (BitVec.ofNat 16 mask &&& keptBits p ||| fields) == keptBits p

theorem encodeFirst_of_exhausts {r : Row} {p : Pattern} {base fields w : Word} {i : Instr}
    (h : exhausts r.mask r.bits base fields p = true) (hw : r.Has w) (hi : encodeFirst i = base ||| w &&& fields) :
    encodeFirst i = w &&& keptBits p := by
  simp only [exhausts, Bool.and_eq_true, beq_iff_eq] at h
  rw [hi, or_and_fields hw.and_eq h.1 h.2]

/-- The seven parts of `patterns`; a search through them one by one is quicker than through `patterns`. -/
def patternTables : List (List Pattern) := [patterns1, patterns2, patterns3, patterns4, patterns5, patterns6, patterns7]

theorem patterns_eq_flatten : patterns = patternTables.flatten := by
  simp only [patterns, patternTables, List.flatten_cons, List.flatten_nil, List.append_assoc, List.append_nil]

/-- A pattern, with an rN field or without, has the words of a row, and `base` and `fields` are all that it does not ignore. -/
def covered (pointer : Bool) (mask bits : Nat) (base fields : Word) : Bool :=
  patternTables.any fun t => t.any fun p => within mask bits p && p.pointer == pointer && exhausts mask bits base fields p

theorem exists_pattern_of_covered {pointer : Bool} {mask bits : Nat} {base fields : Word}
    (h : covered pointer mask bits base fields = true) :
    ∃ p ∈ patterns, within mask bits p = true ∧ p.pointer = pointer ∧ exhausts mask bits base fields p = true := by
  simp only [covered, List.any_eq_true, Bool.and_eq_true, beq_iff_eq] at h
  obtain ⟨t, ht, p, hp, ⟨hwithin, hpointer⟩, hexhausts⟩ := h
  exact ⟨p, patterns_eq_flatten ▸ List.mem_flatten_of_mem ht hp, hwithin, hpointer, hexhausts⟩

section Rules

variable {mask bits words : Nat} {base fields : Word}

/-- A row that reads every word. -/
theorem Row.reads_of_total {parse : Word → Word → Option Instr} (hs : bits ≠ 0x4980 := by decide)
    (h : ∀ w v, ∃ i, parse w v = some i ∧ encodeFirst i = base ||| w &&& fields ∧ ∀ u, encodeSecond i = some u → u = v)
    (hk : covered false mask bits base fields = true := by decide +kernel) : Row.Reads ⟨mask, bits, words, parse⟩ := by
  obtain ⟨p, hp, hwithin, hpointer, hexhausts⟩ := exists_pattern_of_covered hk
  refine ⟨p, hp, hwithin, fun w v => ?_, fun w v i hw hi => ?_, fun w v i u hi => ?_⟩
  · obtain ⟨i, hi, -⟩ := h w v
    simp [Row.Undefined, hi, hpointer, hs]
  · obtain ⟨j, hj, hfirst, -⟩ := h w v
    cases hi.symm.trans hj
    exact encodeFirst_of_exhausts hexhausts hw hfirst
  · obtain ⟨j, hj, -, hsecond⟩ := h w v
    cases hi.symm.trans hj
    exact hsecond u

/-- A row whose instruction takes its fields from any word. The default proofs of `hfirst`, `hsecond` and `hk` put the fields
back into a word, find the operand word, and find the pattern; `hs` stands first so that a row of another form, of which it
knows no bits, fails there. -/
theorem Row.reads_plain {f : Word → Word → Instr} (hs : bits ≠ 0x4980 := by decide)
    (hfirst : ∀ w v, encodeFirst (f w v) = base ||| w &&& fields := by
      intro w v
      simp only [encodeFirst, AX.code_ofCode, BX.code_ofCode, AB.code_ofCode, AccPart.code_ofCode, PostMod.code_ofCode,
        PostMod.movrCode_ofMovrCode, RNStar.code_ofCode, RI.code_ofCode, RJ.code_ofCode, Reg.code_ofCode, Cond.code_ofCode,
        MaxCond.code_ofCode, MinCond.code_ofCode, MovrPtr.code_ofCode, ExtReg.code_ofCode, highBit_append, lowBit_append,
        ofBool_flagBit, put_fld, BitVec.or_assoc, ← BitVec.and_or_distrib_left]
      rfl)
    (hsecond : ∀ w v u, encodeSecond (f w v) = some u → u = v := by intro w v u hu; cases hu <;> rfl)
    (hk : covered false mask bits base fields = true := by decide +kernel) :
    Row.Reads ⟨mask, bits, words, fun w v => some (f w v)⟩ :=
  Row.reads_of_total hs (fun w v => ⟨f w v, rfl, hfirst w v, hsecond w v⟩) hk

/-- A row whose instruction has no field in the first word. -/
theorem Row.reads_fixed {f : Word → Instr} (hs : bits ≠ 0x4980 := by decide)
    (hfirst : ∀ v, encodeFirst (f v) = base := by intro v; rfl)
    (hsecond : ∀ v u, encodeSecond (f v) = some u → u = v := by intro v u hu; cases hu <;> rfl)
    (hk : covered false mask bits base 0 = true := by decide +kernel) :
    Row.Reads ⟨mask, bits, words, fun _ v => some (f v)⟩ :=
  Row.reads_of_total hs
    (fun w v => ⟨f v, rfl, by rw [hfirst, BitVec.ofNat_eq_ofNat, BitVec.and_zero, BitVec.or_zero], hsecond v⟩) hk

/-- A row with an rN field (R137). -/
theorem Row.reads_pointer {f : Word → Word → RN → Instr} (hs : bits ≠ 0x4980 := by decide)
    (hfirst : ∀ w v n, n.code = fld w 0 3 → encodeFirst (f w v n) = base ||| w &&& fields := by
      intro w v n hn
      simp only [encodeFirst, hn, AX.code_ofCode, BX.code_ofCode, AB.code_ofCode, PostMod.code_ofCode, RI.code_ofCode,
        Reg.code_ofCode, ofBool_flagBit, put_fld, BitVec.or_assoc, ← BitVec.and_or_distrib_left]
      rfl)
    (hsecond : ∀ w v n u, encodeSecond (f w v n) = some u → u = v := by intro w v n u hu; cases hu <;> rfl)
    (hk : covered true mask bits base fields = true := by decide +kernel) :
    Row.Reads ⟨mask, bits, words, fun w v => (RN.ofCode (fld w 0 3)).map (f w v)⟩ := by
  obtain ⟨p, hp, hwithin, hpointer, hexhausts⟩ := exists_pattern_of_covered hk
  refine ⟨p, hp, hwithin, fun w v => ?_, fun w v i hw hi => ?_, fun w v i u hi => ?_⟩
  · simp [Row.Undefined, hpointer, hs, RN.ofCode_eq_none_iff, fld_toNat]
  · obtain ⟨n, hn, rfl⟩ := Option.map_eq_some_iff.1 hi
    exact encodeFirst_of_exhausts hexhausts hw (hfirst w v n (RN.code_of_ofCode hn))
  · obtain ⟨n, -, rfl⟩ := Option.map_eq_some_iff.1 hi
    exact hsecond w v n u

/-- The row of `swap` (R149). -/
theorem Row.reads_swap :
    Row.Reads ⟨0xFFC0, 0x4980, words, fun w _ => (SwapOp.ofCode (fld w 0 4)).map fun o => .swap o⟩ := by
  have hk : covered false 0xFFC0 0x4980 0x4980 (put 0 (BitVec.allOnes 4)) = true := by decide +kernel
  obtain ⟨p, hp, hwithin, hpointer, hexhausts⟩ := exists_pattern_of_covered hk
  refine ⟨p, hp, hwithin, fun w v => ?_, fun w v i hw hi => ?_, fun w v i u hi hu => ?_⟩
  · simp [Row.Undefined, hpointer, SwapOp.ofCode_eq_none_iff, fld_toNat]
  · obtain ⟨o, ho, rfl⟩ := Option.map_eq_some_iff.1 hi
    exact encodeFirst_of_exhausts hexhausts hw (by rw [encodeFirst, SwapOp.code_of_ofCode ho, put_fld])
  · obtain ⟨o, -, rfl⟩ := Option.map_eq_some_iff.1 hi
    cases hu

end Rules

/-! ### The rows one by one

Each by the rule whose form it has. The rows that choose among constructors without fields (log 59), and that of `swap`, are
left to the end of their table. -/

theorem moveRows1_read : ∀ r ∈ moveRows1, r.Reads := by
  simp only [moveRows1, List.forall_mem_cons, List.not_mem_nil, IsEmpty.forall_iff, implies_true, and_true]
  and_intros <;> try first | exact Row.reads_pointer | exact Row.reads_plain
  · refine Row.reads_of_total (by decide) (fun w v => ?_) (base := 0xD298) (fields := put 10 (BitVec.allOnes 2))
    split <;> next hc => exact ⟨_, rfl, by rw [encodeFirst, ← hc, AB.code_ofCode, put_fld], by rintro u ⟨⟩⟩
  · refine Row.reads_of_total (by decide) (fun w v => ?_) (base := 0xD2D8) (fields := put 10 (BitVec.allOnes 2))
    split <;> next hc => exact ⟨_, rfl, by rw [encodeFirst, ← hc, AB.code_ofCode, put_fld], by rintro u ⟨⟩⟩
  · refine Row.reads_of_total (by decide) (fun w v => ?_) (base := 0xD490) (fields := put 5 (BitVec.allOnes 2))
    split <;> next hc => exact ⟨_, rfl, by rw [encodeFirst, ← hc, AB.code_ofCode, put_fld], by rintro u ⟨⟩⟩
  · refine Row.reads_of_total (by decide) (fun w v => ?_) (base := 0xD491) (fields := put 5 (BitVec.allOnes 2))
    split <;> next hc => exact ⟨_, rfl, by rw [encodeFirst, ← hc, AB.code_ofCode, put_fld], by rintro u ⟨⟩⟩

theorem moveRows2_read : ∀ r ∈ moveRows2, r.Reads := by
  simp only [moveRows2, List.forall_mem_cons, List.not_mem_nil, IsEmpty.forall_iff, implies_true, and_true]
  and_intros <;> try first | exact Row.reads_pointer | exact Row.reads_fixed | exact Row.reads_plain
  · exact Row.reads_swap

theorem aluRows1_read : ∀ r ∈ aluRows1, r.Reads := by
  simp only [aluRows1, List.forall_mem_cons, List.not_mem_nil, IsEmpty.forall_iff, implies_true, and_true]
  and_intros <;> first | exact Row.reads_pointer | exact Row.reads_plain

theorem aluRows2_read : ∀ r ∈ aluRows2, r.Reads := by
  simp only [aluRows2, List.forall_mem_cons, List.not_mem_nil, IsEmpty.forall_iff, implies_true, and_true]
  and_intros <;> first | exact Row.reads_pointer | exact Row.reads_plain

theorem aluRows3_read : ∀ r ∈ aluRows3, r.Reads := by
  simp only [aluRows3, List.forall_mem_cons, List.not_mem_nil, IsEmpty.forall_iff, implies_true, and_true]
  and_intros <;> try first | exact Row.reads_pointer | exact Row.reads_plain
  · refine Row.reads_of_total (by decide) (fun w v => ?_) (base := 0x49C0) (fields := put 4 (BitVec.allOnes 2))
    split <;> next hc => exact ⟨_, rfl, by rw [encodeFirst, ← hc, LimOp.code_ofCode, put_fld], by rintro u ⟨⟩⟩

theorem bmuRows_read : ∀ r ∈ bmuRows, r.Reads := by
  simp only [bmuRows, List.forall_mem_cons, List.not_mem_nil, IsEmpty.forall_iff, implies_true, and_true]
  and_intros <;> try first | exact Row.reads_pointer | exact Row.reads_plain
  · refine Row.reads_of_total (by decide) (fun w v => ?_) (base := 0x9060)
      (fields := put 8 (BitVec.allOnes 1) ||| put 0 (BitVec.allOnes 1))
    split <;> next hd hb =>
      exact ⟨_, rfl, by rw [encodeFirst, ← hd, ← hb, AX.code_ofCode, BX.code_ofCode, put_fld, put_fld, BitVec.or_assoc,
        BitVec.and_or_distrib_left], by rintro u ⟨⟩⟩
  · refine Row.reads_of_total (by decide) (fun w v => ?_) (base := 0x9460) (fields := put 0 (BitVec.allOnes 1))
    split <;> next hc => exact ⟨_, rfl, by rw [encodeFirst, ← hc, BX.code_ofCode, put_fld], by rintro u ⟨⟩⟩

theorem mulRows1_read : ∀ r ∈ mulRows1, r.Reads := by
  simp only [mulRows1, List.forall_mem_cons, List.not_mem_nil, IsEmpty.forall_iff, implies_true, and_true]
  and_intros <;> first | exact Row.reads_pointer | exact Row.reads_plain

theorem mulRows2_read : ∀ r ∈ mulRows2, r.Reads := by
  simp only [mulRows2, List.forall_mem_cons, List.not_mem_nil, IsEmpty.forall_iff, implies_true, and_true]
  and_intros <;> first | exact Row.reads_pointer | exact Row.reads_plain

theorem loopRows_read : ∀ r ∈ loopRows, r.Reads := by
  simp only [loopRows, List.forall_mem_cons, List.not_mem_nil, IsEmpty.forall_iff, implies_true, and_true]
  and_intros <;> first | exact Row.reads_fixed | exact Row.reads_plain

theorem branchRows_read : ∀ r ∈ branchRows, r.Reads := by
  simp only [branchRows, List.forall_mem_cons, List.not_mem_nil, IsEmpty.forall_iff, implies_true, and_true]
  and_intros <;> try first | exact Row.reads_fixed | exact Row.reads_plain
  · refine Row.reads_of_total (by decide) (fun w v => ?_) (base := 0xD480) (fields := put 8 (BitVec.allOnes 1))
    split <;> next hc => exact ⟨_, rfl, by rw [encodeFirst, ← hc, AX.code_ofCode, put_fld], by rintro u ⟨⟩⟩

theorem controlRows_read : ∀ r ∈ controlRows, r.Reads := by
  simp only [controlRows, List.forall_mem_cons, List.not_mem_nil, IsEmpty.forall_iff, implies_true, and_true]
  and_intros <;> first | exact Row.reads_pointer | exact Row.reads_fixed | exact Row.reads_plain

theorem rows_read : ∀ r ∈ rows, r.Reads := by
  simp only [rows, List.forall_mem_append]
  exact ⟨⟨⟨⟨⟨⟨⟨⟨⟨⟨moveRows1_read, moveRows2_read⟩, aluRows1_read⟩, aluRows2_read⟩, aluRows3_read⟩, bmuRows_read⟩,
    mulRows1_read⟩, mulRows2_read⟩, loopRows_read⟩, branchRows_read⟩, controlRows_read⟩

/-! ### The patterns of the tables and the rows of the decoder (R150 to R157) -/

/-- The pattern of `min` (R150), whose row is cut at the words that are `movr (rN), abXh` too (R157). -/
def minPattern : Pattern := ⟨0xF8E0, 0x8860, 0x0407, false⟩

/-- Every pattern but that of `min` has a row of its own. -/
theorem pattern_has_row : ∀ p ∈ patterns, p = minPattern ∨ ∃ r ∈ rows, r.mask = p.mask ∧ r.bits = p.bits := by
  decide +kernel

theorem min_has_rows : (∃ r ∈ rows, r.mask = 0xFCE0 ∧ r.bits = 0x8C60) ∧
    (∃ r ∈ rows, r.mask = 0xFCE4 ∧ r.bits = 0x8860) ∧ ∃ r ∈ rows, r.mask = 0xFCE4 ∧ r.bits = 0x8864 := by
  decide +kernel

theorem swap_has_row : ∃ r ∈ rows, r.mask = 0xFFC0 ∧ r.bits = 0x4980 := by decide +kernel

/-- What has all words of a pattern with an rN field has such a field too. -/
theorem pointer_of_within : ∀ p ∈ patterns, p.pointer = true →
    ∀ q ∈ patterns, within p.mask p.bits q = true → q.pointer = true := by
  decide +kernel

/-- No pattern ignores a bit that it fixes. -/
theorem keptBits_spec : ∀ p ∈ patterns, (keptBits p).toNat &&& p.mask = p.mask ∧
    (keptBits p).toNat ||| p.ignored = 0xFFFF ∧ p.ignored < 2 ^ 16 := by
  decide +kernel

section Patterns

variable {w v : Word} {i : Instr} {p : Pattern}

theorem row_has_of_eq {mask bits : Nat} (h : ∃ r ∈ rows, r.mask = mask ∧ r.bits = bits) (hw : w.toNat &&& mask = bits) :
    ∃ r ∈ rows, r.Has w := by
  obtain ⟨r, hr, rfl, rfl⟩ := h
  exact ⟨r, hr, hw⟩

/-- The words of `min` are those of three rows, the last that of `movr (rN), abXh` (R157). -/
theorem exists_row_of_min (h : minPattern.has w) : ∃ r ∈ rows, r.Has w := by
  obtain ⟨hset, hclear, hmovr⟩ := min_has_rows
  rcases min_cases h with h | h | h
  · exact row_has_of_eq hset h
  · exact row_has_of_eq hclear h
  · exact row_has_of_eq hmovr h

/-- The rows have the words of the patterns. -/
theorem exists_row_has_iff : (∃ r ∈ rows, r.Has w) ↔ ∃ p ∈ patterns, p.has w := by
  constructor
  · rintro ⟨r, hr, hw⟩
    obtain ⟨p, hp, hread⟩ := rows_read r hr
    exact ⟨p, hp, has_of_within hread.within_eq hw⟩
  · rintro ⟨p, hp, hw⟩
    rcases pattern_has_row p hp with rfl | hrow
    · exact exists_row_of_min hw
    · exact row_has_of_eq hrow hw

theorem decode_noPattern_iff_patterns : decode w v = .error .noPattern ↔ ∀ p ∈ patterns, ¬ p.has w := by
  rw [decode_eq_noPattern_iff]
  simpa only [not_exists, not_and] using not_congr (exists_row_has_iff (w := w))

theorem decode_reservedField_of_pointer (hp : p ∈ patterns) (hpointer : p.pointer = true) (hw : p.has w)
    (hcode : 6 ≤ w.toNat % 8) : decode w v = .error .reservedField := by
  rcases pattern_has_row p hp with rfl | ⟨r, hr, hmask, hbits⟩
  · cases hpointer
  · obtain ⟨q, hq, hread⟩ := rows_read r hr
    have hqpointer : q.pointer = true :=
      pointer_of_within p hp hpointer q hq (by rw [← hmask, ← hbits, hread.within_eq])
    refine decode_eq_reservedField_iff.2 ⟨r, hr, ?_, (hread.parse_eq_none_iff w v).2 (.inl ⟨hqpointer, hcode⟩)⟩
    rw [Row.Has, hmask, hbits, hw]

theorem decode_reservedField_of_swap (hlo : 0x4980 ≤ w.toNat) (hhi : w.toNat < 0x49C0) (hcode : 14 ≤ w.toNat % 16) :
    decode w v = .error .reservedField := by
  obtain ⟨r, hr, hmask, hbits⟩ := swap_has_row
  obtain ⟨q, -, hread⟩ := rows_read r hr
  refine decode_eq_reservedField_iff.2 ⟨r, hr, ?_, (hread.parse_eq_none_iff w v).2 (.inr ⟨hmask, hbits, hcode⟩)⟩
  rw [Row.Has, hmask, hbits, swap_range_iff]
  exact ⟨hlo, hhi⟩

theorem decode_reservedField_iff_patterns : decode w v = .error .reservedField ↔
    (∃ p ∈ patterns, p.pointer = true ∧ p.has w ∧ 6 ≤ w.toNat % 8) ∨
      (0x4980 ≤ w.toNat ∧ w.toNat < 0x49C0 ∧ 14 ≤ w.toNat % 16) := by
  constructor
  · intro h
    obtain ⟨r, hr, hw, hnone⟩ := decode_eq_reservedField_iff.1 h
    obtain ⟨p, hp, hread⟩ := rows_read r hr
    rcases (hread.parse_eq_none_iff w v).1 hnone with ⟨hpointer, hcode⟩ | ⟨hmask, hbits, hcode⟩
    · exact .inl ⟨p, hp, hpointer, has_of_within hread.within_eq hw, hcode⟩
    · rw [Row.Has, hmask, hbits, swap_range_iff] at hw
      exact .inr ⟨hw.1, hw.2, hcode⟩
  · rintro (⟨p, hp, hpointer, hw, hcode⟩ | ⟨hlo, hhi, hcode⟩)
    · exact decode_reservedField_of_pointer hp hpointer hw hcode
    · exact decode_reservedField_of_swap hlo hhi hcode

theorem has_and_keptBits (hp : p ∈ patterns) (hw : p.has w) : p.has (w &&& keptBits p) := by
  rw [Pattern.has, BitVec.toNat_and, Nat.and_assoc, (keptBits_spec p hp).1]
  exact hw

theorem agree_and_keptBits (hp : p ∈ patterns) (w : Word) : p.agree w (w &&& keptBits p) := by
  obtain ⟨-, hall, hlt⟩ := keptBits_spec p hp
  rw [Pattern.agree, BitVec.toNat_and, and_or_of_or_eq w.isLt hlt hall]

/-- The words are those of what they decode to, but for ignored bits of one pattern (D20). -/
theorem agree_of_decode (h : decode w v = .ok i) :
    (∃ p ∈ patterns, p.has w ∧ p.has (encodeFirst i) ∧ p.agree w (encodeFirst i)) ∧
      ∀ u, encodeSecond i = some u → u = v := by
  obtain ⟨r, hr, hw, hparse, -⟩ := decode_eq_ok_iff.1 h
  obtain ⟨p, hp, hread⟩ := rows_read r hr
  have hhas : p.has w := has_of_within hread.within_eq hw
  refine ⟨⟨p, hp, hhas, ?_⟩, fun u => hread.encodeSecond_eq w v i u hparse⟩
  rw [hread.encodeFirst_eq w v i hw hparse]
  exact ⟨has_and_keptBits hp hhas, agree_and_keptBits hp w⟩

/-- No pattern has a word with the bits b under the mask m where each disagrees with b on a bit that both fix. -/
theorem decode_noPattern_of_apart {m b : Nat} (h : ∀ p ∈ patterns, b &&& p.mask ≠ p.bits &&& m) (hw : w.toNat &&& m = b) :
    decode w v = .error .noPattern :=
  decode_noPattern_iff_patterns.2 fun p hp hpw => h p hp (and_comm_of_and_eq hw hpw)

end Patterns

/-! ### Excluded operands (R159) -/

theorem namesAcc_eq (d : AX) (r : Reg) : namesAcc d r = (r == d.reg) := by cases d <;> rfl
theorem namesPointer_eq (n : RN) (r : Reg) : namesPointer n r = (r == n.reg) := by cases n <;> rfl
theorem is16_eq_not_wholeReg (r : Reg) : r.is16 = !wholeReg r := by cases r <;> rfl
theorem isBitField_eq (r : Reg) : r.isBitField = !(wholeReg r || r == .pc) := by cases r <;> rfl
theorem isExpSource_eq (r : Reg) : r.isExpSource = !(r == .p || r == .pc) := by cases r <;> rfl

theorem wellFormed_eq_not_excludes (i : Instr) : i.wellFormed = !excludes i := by
  cases i with
  | addReg d r | subReg d r | cmpReg d r | orReg d r | andReg d r | xorReg d r =>
    simp only [Instr.wellFormed, excludes, namesAcc_eq, bne]
  | addhReg _ r | addlReg _ r | cmpuReg _ r | subhReg _ r | sublReg _ r | sqrReg r | sqraReg _ r | msuYReg _ r | mpyYReg r
  | mpysuYReg r | macYReg _ r | macusYReg _ r | maaYReg _ r | macuuYReg _ r | macsuYReg _ r | maasuYReg _ r | movRegB _ r
  | movRegMixp r | movRegIcr r | movsReg _ r | movrReg _ r | pushReg r | repReg r | bkrepReg r _ =>
    simp only [Instr.wellFormed, excludes, is16_eq_not_wholeReg]
  | setReg r _ | rstReg r _ | chngReg r _ | addvReg r _ | subvReg r _ | cmpvReg r _ | tst0Reg _ r | tst1Reg _ r
  | tst0LongReg r _ | tst1LongReg r _ | tstbReg _ r =>
    simp only [Instr.wellFormed, excludes, isBitField_eq]
  | expRegA _ r | expRegSv r => simp only [Instr.wellFormed, excludes, isExpSource_eq]
  | movRegReg d r =>
    simp only [Instr.wellFormed, excludes, bne, Bool.not_or, Bool.not_and, Bool.not_not, Bool.and_assoc, Bool.or_assoc]
  | movRegInd r n m =>
    simp only [Instr.wellFormed, excludes, is16_eq_not_wholeReg, namesPointer_eq, bne, Bool.not_or, Bool.not_and,
      Bool.not_not]
  | movIndReg r n m => simp only [Instr.wellFormed, excludes, namesPointer_eq, bne, Bool.not_and, Bool.not_not]
  | _ => rfl

/-- Fields put into the free bits of a word of a row leave it a word of the row. -/
theorem Row.Has.or {r : Row} {b c : Word} (hb : r.Has b) (hc : c &&& BitVec.ofNat 16 r.mask = 0#16) : r.Has (b ||| c) := by
  have hfree : c.toNat &&& r.mask = 0 := by
    have hmod := congrArg BitVec.toNat hc
    rw [BitVec.toNat_and, BitVec.toNat_ofNat, ← Nat.mod_eq_of_lt c.isLt, ← Nat.and_mod_two_pow] at hmod
    rwa [Nat.mod_eq_of_lt (Nat.lt_of_le_of_lt Nat.and_le_left c.isLt)] at hmod
  rw [Row.Has, BitVec.toNat_or, Nat.and_or_distrib_right, hb, hfree, Nat.or_zero]

/-- Some row reads i from the words of i; v stands where i has one word. -/
def ReadBack (i : Instr) (v : Word) : Prop :=
  ∃ r ∈ rows, r.Has (encodeFirst i) ∧ r.parse (encodeFirst i) ((encodeSecond i).getD v) = some i

/-- An instruction whose first word is b with fields c put into the free bits of a row of t. The default proofs find the row
of b, see that the fields leave its mask clear, and take them out again. -/
theorem readBack_of_base (t : List Row) {i : Instr} {v b c : Word} {r : Row}
    (ht : t ⊆ rows := by intro r hr; simp [rows, hr])
    (hi : encodeFirst i = b ||| c := by simp only [encodeFirst, BitVec.or_assoc]; rfl)
    (hr : findRow b.toNat t = some r := by rfl)
    (hc : c &&& BitVec.ofNat 16 r.mask = 0#16 := by
      simp (disch := decide) only [BitVec.and_or_distrib_right, put_and_eq_zero, BitVec.or_zero])
    (hp : r.parse (b ||| c) ((encodeSecond i).getD v) = some i := by
      simp (disch := decide) only [encodeSecond, Option.getD_some, fld_or, fld_put_self, fld_put_apart, fld_eq_zero,
        BitVec.zero_or, BitVec.or_zero, AX.ofCode_code, BX.ofCode_code, AB.ofCode_code, PostMod.ofCode_code,
        RN.ofCode_code, Reg.ofCode_code, Option.map_some]) :
    ReadBack i v := by
  obtain ⟨hmem, hb⟩ := mem_of_findRow hr
  exact ⟨r, ht hmem, hi ▸ hb.or hc, hi ▸ hp⟩

theorem readBack_of_excludes {i : Instr} (h : excludes i = true) (v : Word) : ReadBack i v := by
  cases i with
  | orReg d r | andReg d r | xorReg d r | addReg d r | cmpReg d r | subReg d r | addhReg d r | addlReg d r | subhReg d r
  | sublReg d r | cmpuReg d r => exact readBack_of_base aluRows1
  | addvReg r _ | cmpvReg r _ | subvReg r _ => exact readBack_of_base aluRows3
  | tst0Reg d r | tst1Reg d r | setReg r _ | rstReg r _ | chngReg r _ | tst0LongReg r _ | tst1LongReg r _ | tstbReg _ r
  | expRegA d r | expRegSv r => exact readBack_of_base bmuRows
  | msuYReg d r | sqrReg r | sqraReg d r | mpyYReg r | mpysuYReg r | macYReg d r | macusYReg d r | maaYReg d r | macuuYReg d r
  | macsuYReg d r | maasuYReg d r => exact readBack_of_base mulRows1
  | movRegReg d r | movRegB b r | movRegMixp r | movRegInd r n m | movIndReg r n m | movRegIcr r =>
    exact readBack_of_base moveRows1
  | movsReg d r | movrReg d r | pushReg r => exact readBack_of_base moveRows2
  | repReg r | bkrepReg r _ => exact readBack_of_base loopRows
  | _ => cases h

theorem decode_of_excludes {i : Instr} (h : excludes i = true) (v : Word) :
    decode (encodeFirst i) ((encodeSecond i).getD v) = .error .excludedOperand := by
  obtain ⟨r, hr, hw, hp⟩ := readBack_of_excludes h v
  have hill : i.wellFormed = false := by rw [wellFormed_eq_not_excludes, h]; rfl
  rw [decode_of_parse_some hr hw hp, hill]
  rfl

/-! ### Reserved function codes (R145, R148) -/

section Reserved

variable {a b c x : Nat}

/-- The code 0111 of `moda` (R148). -/
theorem decode_reserved_moda (ha : a < 2) (hc : c < 16) (v : Word) :
    decode (BitVec.ofNat 16 (0x6770 + 0x1000 * a + c)) v = .error .noPattern := by
  have hw : ∀ a < 2, ∀ c < 16, (BitVec.ofNat 16 (0x6770 + 0x1000 * a + c)).toNat &&& 0xEFF0 = 0x6770 := by
    decide +kernel
  exact decode_noPattern_of_apart (by decide +kernel) (hw a ha c hc)

/-- The code 111 of `modb` (R148). -/
theorem decode_reserved_modb (ha : a < 2) (hb : b < 2) (hc : c < 16) (v : Word) :
    decode (BitVec.ofNat 16 (0x6F70 + 0x1000 * a + 0x80 * b + c)) v = .error .noPattern := by
  have hw : ∀ a < 2, ∀ b < 2, ∀ c < 16, (BitVec.ofNat 16 (0x6F70 + 0x1000 * a + 0x80 * b + c)).toNat &&& 0xEF70 =
      0x6F70 := by
    decide +kernel
  exact decode_noPattern_of_apart (by decide +kernel) (hw a ha b hb c hc)

/-- The codes 100 and 101 of `alu ##long immediate, aX` (R145). -/
theorem decode_reserved_aluLong (hx : x ∈ [4, 5]) (ha : a < 2) (hc : c < 32) (v : Word) :
    decode (BitVec.ofNat 16 (0x80C0 + 0x200 * x + 0x100 * a + c)) v = .error .noPattern := by
  have hw : ∀ x ∈ [4, 5], ∀ a < 2, ∀ c < 32, (BitVec.ofNat 16 (0x80C0 + 0x200 * x + 0x100 * a + c)).toNat &&& 0xFCE0 =
      0x88C0 := by
    decide +kernel
  exact decode_noPattern_of_apart (by decide +kernel) (hw x hx a ha c hc)

/-- Those of `alu #unsigned short immediate, aX` (R145). -/
theorem decode_reserved_aluShort (hx : x ∈ [4, 5]) (ha : a < 2) (hc : c < 256) (v : Word) :
    decode (BitVec.ofNat 16 (0xC000 + 0x200 * x + 0x100 * a + c)) v = .error .noPattern := by
  have hw : ∀ x ∈ [4, 5], ∀ a < 2, ∀ c < 256, (BitVec.ofNat 16 (0xC000 + 0x200 * x + 0x100 * a + c)).toNat &&& 0xFC00 =
      0xC800 := by
    decide +kernel
  exact decode_noPattern_of_apart (by decide +kernel) (hw x hx a ha c hc)

/-- Those of `alu (rb+#offset7), aX` (R145). -/
theorem decode_reserved_aluIdx7 (hx : x ∈ [4, 5]) (ha : a < 2) (hc : c < 128) (v : Word) :
    decode (BitVec.ofNat 16 (0x4000 + 0x200 * x + 0x100 * a + c)) v = .error .noPattern := by
  have hw : ∀ x ∈ [4, 5], ∀ a < 2, ∀ c < 128, (BitVec.ofNat 16 (0x4000 + 0x200 * x + 0x100 * a + c)).toNat &&& 0xFC80 =
      0x4800 := by
    decide +kernel
  exact decode_noPattern_of_apart (by decide +kernel) (hw x hx a ha c hc)

/-- Those of `alu (rb+##offset), aX` (R145). -/
theorem decode_reserved_aluIdx16 (hx : x ∈ [4, 5]) (ha : a < 2) (v : Word) :
    decode (BitVec.ofNat 16 (0xD4D8 + 0x100 * a + x)) v = .error .noPattern := by
  have hw : ∀ x ∈ [4, 5], ∀ a < 2, (BitVec.ofNat 16 (0xD4D8 + 0x100 * a + x)).toNat &&& 0xFEFE = 0xD4DC := by
    decide +kernel
  exact decode_noPattern_of_apart (by decide +kernel) (hw x hx a ha)

/-- Those of `alu [##direct address], aX` (R145). -/
theorem decode_reserved_aluDirLong (hx : x ∈ [4, 5]) (ha : a < 2) (v : Word) :
    decode (BitVec.ofNat 16 (0xD4F8 + 0x100 * a + x)) v = .error .noPattern := by
  have hw : ∀ x ∈ [4, 5], ∀ a < 2, (BitVec.ofNat 16 (0xD4F8 + 0x100 * a + x)).toNat &&& 0xFEFE = 0xD4FC := by
    decide +kernel
  exact decode_noPattern_of_apart (by decide +kernel) (hw x hx a ha)

end Reserved

end Sys2Proof

/-! ### The obligations of 30_encoding.md -/

namespace Sys2Proof.Proofs

open Sys2Proof Sys2Proof.Claim

/-- Settles O1, by running the decoder on the twelve words. -/
theorem decodeWords : Obligations.DecodeWords := by
  unfold Obligations.DecodeWords
  decide +kernel

/-- Settles O4: the rows of the decoder have the words of the patterns, each reads them as the encoder writes them, the words
of an instruction with an excluded operand are read back, and every pattern disagrees with each range of reserved codes. -/
theorem reservedWords : Obligations.ReservedWords := by
  unfold Obligations.ReservedWords
  refine ⟨fun w v => decode_noPattern_iff_patterns, fun w v => decode_reservedField_iff_patterns, wellFormed_eq_not_excludes,
    fun i v hi => decode_of_excludes hi v, fun w v i => agree_of_decode, ?modes, ?alu⟩
  case modes => exact fun a b c v ha hb hc => ⟨decode_reserved_moda ha hc v, decode_reserved_modb ha hb hc v⟩
  case alu =>
    intro x a c v hx ha
    have hx : x ∈ [4, 5] := by simpa using hx
    exact ⟨fun hc => decode_reserved_aluLong hx ha hc v, fun hc => decode_reserved_aluShort hx ha hc v,
      fun hc => decode_reserved_aluIdx7 hx ha hc v, decode_reserved_aluIdx16 hx ha v,
      decode_reserved_aluDirLong hx ha v⟩

end Sys2Proof.Proofs

namespace Sys2Proof.Machine

open Sys2Proof.Claim

section AluOperands

/-! ### The operands of the ALU family in integers (R201) -/

variable {s : State} {x : AluSrc} {e : Ext} {n : Int}

theorem Acc.toInt_ofInt (hlo : -(2 ^ 35) ≤ n) (hhi : n < 2 ^ 35) : (BitVec.ofInt 36 n : Acc).toInt = n :=
  BitVec.toInt_ofInt_eq_self (by decide) hlo hhi

theorem Ext.widen_int (e : Ext) (v : Word) : e.widen v = BitVec.ofInt 36 (Claim.widen e v) := by
  cases e with
  | sign => exact Word.signExtend_int v
  | zero => exact Word.setWidth_int v

/-- A 16-bit operand, signed or unsigned, has at most seventeen bits. -/
theorem widen_bounds (e : Ext) (v : Word) : -(2 ^ 15) ≤ Claim.widen e v ∧ Claim.widen e v < 2 ^ 16 := by
  have hlo := v.le_toInt
  have hhi := v.toInt_lt
  have hnat := v.isLt
  cases e <;> simp only [Claim.widen] <;> omega

theorem regReady_iff {r : Reg} : regReady r s = true ↔ r.is16 = true ∧ s.hasReg r = true := by
  rw [regReady, Bool.and_eq_true]

theorem readSrc_of_ready {x : Src} (h : ready x s = true) (k : Word → State → Out) :
    readSrc x s k = k (value x s) (rest x s) := by
  cases x with
  | direct a => exact readSrc_direct h k
  | ind r m => exact readSrc_ind h k
  | reg r =>
    obtain ⟨h16, hhas⟩ := regReady_iff.1 h
    exact readSrc_reg h16 hhas k

/-- The operand is the integer of R201 in 36 bits; of the state only a pointer or what a register read uses changes. -/
theorem readAlu_of_ready (h : aluReady x s = true) (k : Acc → State → Out) :
    readAlu x e s k = k (BitVec.ofInt 36 (aluOperand x e s)) (aluRest x s) := by
  cases x with
  | direct a => rw [readAlu, readSrc_of_ready (x := .direct a) h, Ext.widen_int]; rfl
  | ind r m => rw [readAlu, readSrc_of_ready (x := .ind r m) h, Ext.widen_int]; rfl
  | reg r =>
    rw [readAlu, aluOperand]
    split_ifs with h0 h1 hp
    · rw [BitVec.ofInt_toInt, h0]; rfl
    · rw [BitVec.ofInt_toInt, h1]; rfl
    · rw [← shiftedP_toInt, BitVec.ofInt_toInt, hp]; rfl
    · have hready : regReady r s = true := by simpa [aluReady, h0, h1, hp] using h
      rw [readSrc_of_ready (x := .reg r) hready, Ext.widen_int]; rfl
  | short v =>
    have hshort : v.setWidth 36 = BitVec.ofInt 36 v.toNat := by
      rw [BitVec.ofInt_natCast, BitVec.ofNat_toNat]
    rw [readAlu, hshort]; rfl
  | long v => rw [readAlu, Ext.widen_int]; rfl
  | idx7 o => rw [readAlu, State.addrIdx7, readData_of_readable h, Ext.widen_int]; rfl
  | idx16 o => rw [readAlu, State.addrIdx16, readData_of_readable h, Ext.widen_int]; rfl
  | dirLong a => rw [readAlu, readData_of_readable h, Ext.widen_int]; rfl

@[simp] theorem aluRest_accs (x : AluSrc) (s : State) : (aluRest x s).accs = s.accs := by
  cases x <;> simp [aluRest]

@[simp] theorem aluRest_flags (x : AluSrc) (s : State) : (aluRest x s).flags = s.flags := by
  cases x <;> simp [aluRest]

/-- The operand has at most sixteen bits: not a whole accumulator, not p. -/
def AluSrc.narrow (x : AluSrc) : Bool :=
  match x with
  | .reg r => r.is16
  | .direct _ | .ind _ _ | .short _ | .long _ | .idx7 _ | .idx16 _ | .dirLong _ => true

theorem aluOperand_bounds_of_narrow (h : x.narrow = true) (e : Ext) (s : State) :
    -(2 ^ 15) ≤ aluOperand x e s ∧ aluOperand x e s < 2 ^ 16 := by
  cases x with
  | reg r =>
    have hr : r ≠ .a0 ∧ r ≠ .a1 ∧ r ≠ .p := by
      simpa [AluSrc.narrow, Reg.is16, and_assoc] using h
    obtain ⟨h0, h1, hp⟩ := hr
    simp only [aluOperand, h0, h1, hp, if_false]
    exact widen_bounds e _
  | short v =>
    have hv := v.isLt
    simp only [aluOperand]
    omega
  | direct | ind | long | idx7 | idx16 | dirLong => exact widen_bounds e _

theorem aluOperand_bounds (x : AluSrc) (e : Ext) (s : State) :
    -(2 ^ 35) ≤ aluOperand x e s ∧ aluOperand x e s < 2 ^ 35 := by
  by_cases hnarrow : x.narrow = true
  · have hbounds := aluOperand_bounds_of_narrow hnarrow e s
    omega
  · cases x with
    | reg r =>
      rw [aluOperand]
      split_ifs
      · exact ⟨s.accs.a0.le_toInt, s.accs.a0.toInt_lt⟩
      · exact ⟨s.accs.a1.le_toInt, s.accs.a1.toInt_lt⟩
      · rw [← shiftedP_toInt]
        exact ⟨BitVec.le_toInt _, BitVec.toInt_lt⟩
      · have hbounds := widen_bounds e (s.regValue r)
        omega
    | _ => exact absurd rfl hnarrow

end AluOperands

section AluInstructions

/-! ### The instructions of the ALU family (R203 to R213) -/

variable {i : Instr} {op : AluOp} {d : AX} {src : AluSrc} {s : State}

theorem exec_of_addView (h : addView i = some (op, d, src)) : exec i s = aluOp op d src s := by
  unfold addView at h
  split at h <;> cases h <;> rfl

theorem exec_of_subView (h : subView i = some (op, d, src)) : exec i s = aluOp op d src s := by
  unfold subView at h
  split at h <;> cases h <;> rfl

theorem exec_of_logicView (h : logicView i = some (op, d, src)) : exec i s = aluOp op d src s := by
  unfold logicView at h
  split at h <;> cases h <;> rfl

theorem op_of_addView (h : addView i = some (op, d, src)) : op = .add ∨ op = .addh ∨ op = .addl := by
  unfold addView at h
  split at h <;> cases h <;> decide

theorem op_of_subView (h : subView i = some (op, d, src)) :
    op = .sub ∨ op = .subh ∨ op = .subl ∨ op = .cmp ∨ op = .cmpu := by
  unfold subView at h
  split at h <;> cases h <;> decide

theorem op_of_logicView (h : logicView i = some (op, d, src)) : op = .or ∨ op = .and ∨ op = .xor := by
  unfold logicView at h
  split at h <;> cases h <;> decide

/-- `addh` takes no whole accumulator and not p (R159, R209). -/
theorem narrow_of_addh (hwf : i.WellFormed) (h : addView i = some (.addh, d, src)) : src.narrow = true := by
  unfold addView at h
  split at h <;> cases h
  · rfl
  · rfl
  · exact hwf

/-- Nor does `subh` (R159, R210). -/
theorem narrow_of_subh (hwf : i.WellFormed) (h : subView i = some (.subh, d, src)) : src.narrow = true := by
  unfold subView at h
  split at h <;> cases h
  · rfl
  · rfl
  · exact hwf

theorem aluOp_of_ready (h : aluReady src s = true) :
    aluOp op d src s = .next
      (let x := aluResult op src.isShort (s.accs.get d.ab) (BitVec.ofInt 36 (aluOperand src op.ext s)) s.flags
       { aluRest src s with accs := s.accs.set d.ab x.1, flags := x.2 }) := by
  rw [aluOp, readAlu_of_ready h]
  simp only [aluRest_accs, aluRest_flags]

variable {n : Int}

theorem add36_ofInt (f : Flags) (x : Acc) (hlo : -(2 ^ 35) ≤ n) (hhi : n < 2 ^ 35) :
    ((add36 x (BitVec.ofInt 36 n)).r, f.arith (add36 x (BitVec.ofInt 36 n))) = plus f x n := by
  rw [add36_eq_plus, Acc.toInt_ofInt hlo hhi]

theorem sub36_ofInt (f : Flags) (x : Acc) (hlo : -(2 ^ 35) ≤ n) (hhi : n < 2 ^ 35) :
    ((sub36 x (BitVec.ofInt 36 n)).r, f.arith (sub36 x (BitVec.ofInt 36 n))) = minus f x n := by
  rw [sub36_eq_minus, Acc.toInt_ofInt hlo hhi]

/-- The operand of `addh` and `subh` (R209, R210). -/
theorem ofInt_shl_16 (hlo : -(2 ^ 35) ≤ n) (hhi : n < 2 ^ 35) :
    (BitVec.ofInt 36 n : Acc) <<< 16 = BitVec.ofInt 36 (n * 65536) := by
  rw [Acc.shl_int, Acc.toInt_ofInt hlo hhi]
  rfl

/-- `cmp` and `cmpu` write aX back as it was (R205, R213). -/
theorem aluResult_compare (hop : op = .cmp ∨ op = .cmpu) (short : Bool) (x : Acc) (f : Flags) (hlo : -(2 ^ 35) ≤ n)
    (hhi : n < 2 ^ 35) : aluResult op short x (BitVec.ofInt 36 n) f = (x, (minus f x n).2) := by
  rw [← sub36_ofInt f x hlo hhi]
  rcases hop with rfl | rfl <;> rfl

/-- The ALU output of a logic function (R206 to R208). -/
def logicOutput (op : AluOp) (x b : Acc) : Acc :=
  match op with
  | .or => x ||| b
  | .and => x &&& b
  | _ => x ^^^ b

theorem getLsbD_logicOutput (op : AluOp) (x b : Acc) (k : Nat) :
    (logicOutput op x b).getLsbD k = logicBit op (x.getLsbD k) (b.getLsbD k) := by
  cases op with
  | or => exact BitVec.getLsbD_or
  | and => exact BitVec.getLsbD_and
  | _ => exact BitVec.getLsbD_xor

/-- The ALU output reaches aX whole, but for bits 15..8 with a short immediate of `and` (R207). -/
theorem getLsbD_aluResult_logic (hop : op = .or ∨ op = .and ∨ op = .xor) (short : Bool) (x b : Acc) (f : Flags)
    {k : Nat} (hk : k < 36) :
    (aluResult op short x b f).1.getLsbD k =
      if op = .and ∧ short = true ∧ 8 ≤ k ∧ k < 16 then x.getLsbD k else (logicOutput op x b).getLsbD k := by
  rcases hop with rfl | rfl | rfl
  · rfl
  · cases short with
    | false => rfl
    | true =>
      simp only [aluResult, logicOutput, if_true, BitVec.getLsbD_append, BitVec.getLsbD_extractLsb', true_and]
      by_cases h8 : k < 8
      · have hlow : k < 8 + 8 := by omega
        simp [h8, hlow]
      · by_cases h16 : k < 16
        · simp [h8, h16, show k - 8 < 8 by omega, show 8 + (k - 8) = k by omega, show 8 ≤ k by omega]
        · simp [h16, show k - 16 < 20 by omega, show 16 + (k - 16) = k by omega]
  · rfl

theorem Flags.andOutput_eq (f : Flags) (r : Acc) : f.andOutput r = { zmne f r with n := f.n } := by
  rw [← Flags.setZMNE_eq_zmne]
  rfl

theorem aluResult_logic_flags (hop : op = .or ∨ op = .and ∨ op = .xor) (short : Bool) (x b : Acc) (f : Flags) :
    (aluResult op short x b f).2 =
      if op = .and then { zmne f (logicOutput op x b) with n := f.n } else zmne f (logicOutput op x b) := by
  rcases hop with rfl | rfl | rfl
  · exact Flags.setZMNE_eq_zmne f _
  · exact Flags.andOutput_eq f _
  · exact Flags.setZMNE_eq_zmne f _

end AluInstructions

section Shifts

/-! ### The barrel shifter in integers (R290) -/

theorem shift36_result (x : Acc) (n : Int) (logic : Bool) : (shift36 x n logic).r = shifted x n logic := by
  cases n with
  | ofNat k =>
    cases k with
    | zero => simp [shift36, shifted]
    | succ k =>
      rw [shifted, if_pos (show 0 ≤ Int.ofNat (k + 1) from Int.natCast_nonneg _)]
      exact Acc.shl_int x (k + 1)
  | negSucc k =>
    rw [shifted, if_neg (by omega)]
    cases logic with
    | true => exact Acc.shr_nat x (k + 1)
    | false => exact Acc.sar_int x (k + 1)

theorem shift36_carry (x : Acc) (n : Int) (logic : Bool) : (shift36 x n logic).c = shiftCarry x n := by
  cases n with
  | ofNat k =>
    cases k with
    | zero => rfl
    | succ k =>
      rw [shiftCarry, if_neg (by simp; omega), if_pos (by simp)]
      rfl
  | negSucc k =>
    rw [shiftCarry, if_neg (by omega), if_neg (by omega)]
    rfl

/-- The bits that a left shift by fewer than 36 places pushes into and past the sign are all equal exactly when the
product fits 36 bits. -/
theorem shl_overflow (x : Acc) {k : Nat} (hk : k < 36) :
    (x.sshiftRight (35 - k) != 0 && x.sshiftRight (35 - k) != BitVec.allOnes 36) = outside36 (x.toInt * 2 ^ k) := by
  have hsplit : (2 : Int) ^ (35 - k) * 2 ^ k = 2 ^ 35 := by rw [← pow_add, Nat.sub_add_cancel (by omega)]
  have hpos : (0 : Int) < 2 ^ (35 - k) := by positivity
  have hpos' : (0 : Int) < 2 ^ k := by positivity
  have hzero : (0 : Acc).toInt = 0 := by decide
  have hones : (BitVec.allOnes 36).toInt = -1 := by decide
  have hdiv : (x.sshiftRight (35 - k)).toInt = x.toInt / 2 ^ (35 - k) := by
    rw [BitVec.toInt_sshiftRight, Int.shiftRight_eq_div_pow]
    norm_cast
  rw [Bool.eq_iff_iff, outside36, Bool.and_eq_true, bne_iff_ne, bne_iff_ne, Bool.or_eq_true, decide_eq_true_eq,
    decide_eq_true_eq, ne_eq, ne_eq, ← BitVec.toInt_inj, ← BitVec.toInt_inj, hones, hdiv, hzero, ← hsplit]
  have hlo : x.toInt * 2 ^ k < -(2 ^ (35 - k) * 2 ^ k) ↔ x.toInt / 2 ^ (35 - k) < -1 := by
    rw [← neg_mul, mul_lt_mul_iff_left₀ hpos', Int.ediv_lt_iff_lt_mul hpos, neg_one_mul]
  have hhi : 2 ^ (35 - k) * 2 ^ k ≤ x.toInt * 2 ^ k ↔ 1 ≤ x.toInt / 2 ^ (35 - k) := by
    rw [mul_le_mul_iff_left₀ hpos', Int.le_ediv_iff_mul_le hpos, one_mul]
  rw [hlo, hhi]
  omega

/-- From 36 places on, every number but zero leaves 36 bits. -/
theorem shl_overflow_all (x : Acc) {k : Nat} (hk : 36 ≤ k) : (x != 0) = outside36 (x.toInt * 2 ^ k) := by
  have hpow : (2 : Int) ^ 36 ≤ 2 ^ k := pow_le_pow_right₀ (by decide) hk
  have hzero : (0 : Acc).toInt = 0 := by decide
  rw [Bool.eq_iff_iff, outside36, bne_iff_ne, Bool.or_eq_true, decide_eq_true_eq, decide_eq_true_eq, ne_eq,
    ← BitVec.toInt_inj, hzero]
  constructor
  · intro hne
    rcases lt_or_gt_of_ne hne with hneg | hpos
    · left; nlinarith
    · right; nlinarith
  · rintro hout hx
    rw [hx] at hout
    omega

theorem shift36_overflow (x : Acc) (n : Int) (logic : Bool) : (shift36 x n logic).v = shiftOverflow x n := by
  cases n with
  | ofNat k =>
    cases k with
    | zero => rfl
    | succ k =>
      have hpos : decide (0 < Int.ofNat (k + 1)) = true := decide_eq_true (Int.natCast_pos.2 k.succ_pos)
      rw [shiftOverflow, hpos, Bool.true_and, shift36]
      by_cases hk : 36 ≤ k + 1
      · exact (if_pos hk).trans (shl_overflow_all x hk)
      · exact (if_neg hk).trans (shl_overflow x (by omega))
  | negSucc k => rfl

theorem Flags.shift_eq_shiftFlags (f : Flags) (x : Acc) (n : Int) (logic : Bool) :
    f.shift (shift36 x n logic) logic = shiftFlags f x n logic := by
  cases logic with
  | true =>
    rw [Flags.shift, if_pos rfl, Flags.setZMNE_eq_zmne, shift36_result, shift36_carry]
    rfl
  | false =>
    rw [Flags.shift, if_neg (by decide), Flags.arith_eq_sumFlags, shift36_result, shift36_carry, shift36_overflow]
    rfl

end Shifts

section Modify

/-! ### `moda` and `modb` (R218, R317) -/

variable {i : Instr} {fn : ModFn} {a : AB} {c : Cond} {n : Int} {left : Bool} {s : State}

theorem modify_of_holds (h : holds c s = true) :
    modify fn a c s = .next
      (let r := modResult fn (s.accs.get a) (s.accs.get (mate a)) (shiftedP s.mul s.stat.ps) s.stat.s s.flags
       { s with accs := s.accs.set a r.1, flags := r.2 }) := by
  rw [holds_eq_condHolds] at h
  rw [modify, if_pos h]
  rfl

/-- A conditional instruction does what it does where its condition holds, and nothing else anywhere (R218, R317). -/
theorem exec_of_condView (h : condView i = some c) :
    ∃ taken, exec i s = if condHolds c s.flags s.pins then taken else .next s := by
  unfold condView at h
  split at h <;> cases h <;> exact ⟨_, rfl⟩

/-- The shifts of `moda` and `modb` run the barrel shifter with their count (R219 to R222, R318 to R321). -/
theorem exec_of_shiftFnView (h : shiftFnView i = some (a, c, n)) :
    ∃ fn, exec i s = modify fn a c s ∧ ∀ x other p logic f,
      modResult fn x other p logic f = ((shift36 x n logic).r, f.shift (shift36 x n logic) logic) := by
  unfold shiftFnView at h
  split at h <;> cases h <;> exact ⟨_, rfl, fun _ _ _ _ _ => rfl⟩

theorem exec_of_rotateView (h : rotateView i = some (a, c, left)) :
    exec i s = modify (if left then .rol else .ror) a c s := by
  unfold rotateView at h
  split at h <;> cases h <;> rfl

/-- The accumulator rotated by one place through the carry (R223, R224). -/
def rotated (left : Bool) (x : Acc) (carry : Bool) : Acc :=
  if left then x.extractLsb' 0 35 ++ BitVec.ofBool carry else BitVec.ofBool carry ++ x.extractLsb' 1 35

theorem modResult_rotate (left : Bool) (x other p : Acc) (logic : Bool) (f : Flags) :
    modResult (if left then .rol else .ror) x other p logic f =
      (rotated left x f.c, { zmne f (rotated left x f.c) with c := x.getLsbD (if left then 35 else 0) }) := by
  cases left with
  | true => rw [← Flags.setZMNE_eq_zmne]; rfl
  | false => rw [← Flags.setZMNE_eq_zmne]; rfl

theorem getLsbD_rotated (left : Bool) (x : Acc) (carry : Bool) {k : Nat} (hk : k < 36) :
    (rotated left x carry).getLsbD k =
      if left then (if k = 0 then carry else x.getLsbD (k - 1)) else (if k = 35 then carry else x.getLsbD (k + 1)) := by
  cases left with
  | true =>
    simp only [rotated, if_true, BitVec.getLsbD_append, BitVec.getLsbD_ofBool, BitVec.getLsbD_extractLsb']
    by_cases h0 : k = 0
    · simp [h0]
    · simp [h0, show ¬ k < 1 by omega, show k - 1 < 35 by omega]
  | false =>
    simp only [rotated, Bool.false_eq_true, if_false, BitVec.getLsbD_append, BitVec.getLsbD_ofBool,
      BitVec.getLsbD_extractLsb']
    by_cases h35 : k = 35
    · simp [h35]
    · simp [h35, show k < 35 by omega, Nat.add_comm 1 k]

theorem exec_of_accFnView (h : accFnView i = some (fn, a, c)) : exec i s = modify fn a c s := by
  unfold accFnView at h
  split at h <;> cases h <;> rfl

theorem accFnView_not_shift (h : accFnView i = some (fn, a, c)) : fn ∉ [.shr, .shr4, .shl, .shl4, .ror, .rol] := by
  unfold accFnView at h
  split at h <;> cases h <;> decide

theorem Acc.sub_ofInt (x : Acc) (n : Int) : x - BitVec.ofInt 36 n = BitVec.ofInt 36 (x.toInt - n) := by
  rw [Int.sub_eq_add_neg, BitVec.ofInt_add, BitVec.ofInt_neg, BitVec.ofInt_toInt, BitVec.sub_eq_add_neg]

theorem Acc.not_int (x : Acc) : ~~~x = BitVec.ofInt 36 (-x.toInt - 1) := by
  rw [BitVec.not_eq_neg_add, Int.sub_eq_add_neg, BitVec.ofInt_add, BitVec.ofInt_neg, BitVec.ofInt_toInt,
    BitVec.sub_eq_add_neg]
  rfl

/-- The functions that neither shift nor rotate, on integers (R225 to R233, R324). -/
theorem accFn_eq_modResult (hfn : fn ∉ [.shr, .shr4, .shl, .shl4, .ror, .rol]) (x other p : Acc) (logic : Bool)
    (f : Flags) : accFn fn x other p.toInt f = some (modResult fn x other p logic f) := by
  cases fn with
  | shr | shr4 | shl | shl4 | ror | rol => exact absurd hfn (by decide)
  | clr | clrr | copy => simp only [accFn, modResult, Flags.setZMNE_eq_zmne]
  | not => simp only [accFn, modResult, Flags.setZMNE_eq_zmne, Acc.not_int]
  | neg => exact congrArg some (sub36_eq_minus f 0 x).symm
  | rnd => exact congrArg some (add36_eq_plus f x 0x8000).symm
  | pacr => rw [accFn, BitVec.ofInt_toInt]; exact congrArg some (add36_eq_plus f p 0x8000).symm
  | inc => exact congrArg some (add36_eq_plus f x 1).symm
  | dec => exact congrArg some (sub36_eq_minus f x 1).symm

end Modify

section Pointers

/-! ### Post-modification in integers (R105, R106) -/

theorem modOf_eq_div (cfg : Word) : modOf cfg = cfg.toNat / 128 := by
  have hcfg := cfg.isLt
  rw [modOf, BitVec.extractLsb'_toNat, Nat.shiftRight_eq_div_pow]
  omega

theorem State.postMod_eq_nextPointer (s : State) (n : RN) (m : PostMod) (modulo : Bool) :
    s.postMod n m modulo = nextPointer s n m modulo := by
  have hlinear (q : Int) : s.ptr n + BitVec.ofInt 16 q = BitVec.ofInt 16 ((s.ptr n).toNat + q) := by
    rw [BitVec.ofInt_add, BitVec.ofInt_natCast, BitVec.ofNat_toNat, BitVec.setWidth_eq]
  cases m <;> simp only [State.postMod, PostMod.amount, nextPointer, stepOf, modOf_eq_div, hlinear]

theorem State.bump_eq_setPtr (s : State) (n : RN) (m : PostMod) :
    s.bump n m = s.setPtr n (nextPointer s n m (s.moduloOn n)) := by
  rw [State.bump, State.postMod_eq_nextPointer]

end Pointers

section Steps

/-! ### `norm`, `divs`, `max`, `maxd`, `min`, `lim` (R240 to R249) -/

variable {i : Instr} {d : AX} {c : Contest} {m : PostMod} {x y : AB} {s : State}

/-- The shifting branch of `norm` (R240). -/
theorem normStep_of_not_n (h : s.flags.n = false) (n : RN) :
    normStep d n m s = .next
      { s.setPtr n (nextPointer s n m (s.moduloOn n)) with
        accs := s.accs.set d.ab (shifted (s.accs.get d.ab) 1 false)
        flags := { shiftFlags s.flags (s.accs.get d.ab) 1 false with
          r := decide (nextPointer s n m (s.moduloOn n) = 0) } } := by
  simp only [normStep, h, Bool.false_eq_true, if_false, State.bump_eq_setPtr, shift36_result,
    Flags.shift_eq_shiftFlags]
  cases n <;> rfl

/-- The difference that `divs` tests (R241). -/
theorem divs_difference (x : Acc) (v : Word) :
    x - (v.signExtend 36 <<< 15) = BitVec.ofInt 36 (x.toInt - v.toInt * 32768) := by
  rw [Acc.shl_int, BitVec.toInt_signExtend_of_le (by decide), Acc.sub_ofInt]
  rfl

theorem Acc.double (t : Acc) : t <<< 1 = BitVec.ofInt 36 (2 * t.toInt) := by
  rw [Acc.shl_int, mul_comm]
  rfl

/-- A doubled number is even, so setting bit 0 adds one. -/
theorem Acc.double_or_one (t : Acc) : (t <<< 1) ||| 1 = BitVec.ofInt 36 (2 * t.toInt + 1) := by
  have hdisjoint : (t <<< 1) &&& 1 = 0 := by
    apply BitVec.eq_of_getLsbD_eq
    intro k hk
    cases k <;> simp
  rw [← BitVec.add_eq_or_of_and_eq_zero _ _ hdisjoint, BitVec.ofInt_add, Acc.double]
  rfl

/-- The two outcomes of a step of a division (R241). -/
theorem divs_result (x t : Acc) :
    (if t.msb then x <<< 1 else (t <<< 1) ||| 1) =
      BitVec.ofInt 36 (if t.toInt < 0 then 2 * x.toInt else 2 * t.toInt + 1) := by
  rw [BitVec.msb_eq_toInt, Acc.double_or_one, Acc.double, apply_ite (BitVec.ofInt 36)]
  simp only [decide_eq_true_eq]

theorem divStep_of_readable {a : BitVec 8} (h : s.readable (s.stat.page ++ a) = true) :
    divStep d a s = .next
      (let x := (s.accs.get d.ab).toInt
       let t := (BitVec.ofInt 36 (x - (Memory.word s.dmem (s.stat.page ++ a)).toInt * 32768)).toInt
       accLanded s d.ab (BitVec.ofInt 36 (if t < 0 then 2 * x else 2 * t + 1))) := by
  rw [divStep, readData_of_readable (show s.readable (s.addrDirect a) = true from h)]
  simp only [State.setAccFlags, Flags.setZMNE_eq_zmne, divs_difference, divs_result]
  rfl

/-- The end of `max`, `maxd`, `min`, as one next state (R246 to R248). -/
theorem extremum_eq (d : AX) (x : Acc) (won : Bool) (m : PostMod) (s : State) :
    extremum d x won m s = .next
      { s with
        accs := if won then s.accs.set d.ab x else s.accs
        flags := { s.flags with m := won }
        dau := { s.dau with
          r0 := nextPointer s .r0 m (s.moduloOn .r0), mixp := if won then s.dau.r0 else s.dau.mixp } } := by
  rw [← State.postMod_eq_nextPointer]
  cases won <;> rfl

theorem exec_of_extremeView_other (h : extremeView i = some (c, .other, d, m)) :
    exec i s = extremum d (s.accs.get d.other.ab)
      (c.won (s.accs.get d.other.ab).toInt (s.accs.get d.ab).toInt) m s := by
  unfold extremeView at h
  split at h <;> cases h <;> rfl

theorem exec_of_extremeView_data (h : extremeView i = some (c, .data, d, m)) :
    exec i s = readData s s.dau.r0 fun v t =>
      extremum d (accFull v) (c.won (accFull v).toInt (s.accs.get d.ab).toInt) m t := by
  unfold extremeView at h
  split at h <;> cases h <;> rfl

theorem exec_of_limitView (h : limitView i = some (x, y)) :
    ∃ o, exec i s = limit o s ∧ (LimOp.operands o).1.ab = x ∧ (LimOp.operands o).2.ab = y := by
  unfold limitView at h
  split at h <;> cases h <;> exact ⟨_, rfl, rfl, rfl⟩

/-- `lim` clamps to 32 bits and reports the values that did not fit (R249, C6). -/
theorem limited_eq_clamp (x : Acc) :
    limited x = (BitVec.ofInt 36 (max (-(2 ^ 31)) (min (2 ^ 31 - 1) x.toInt)), wide x) := by
  unfold limited wide
  split_ifs with hhi hlo
  · have hwide : 2 ^ 31 ≤ x.toInt := by omega
    rw [min_eq_left (by omega), max_eq_right (by omega), decide_eq_true hwide, Bool.or_true]
    rfl
  · have hwide : x.toInt < -(2 ^ 31) := by omega
    rw [min_eq_right (by omega), max_eq_left (by omega), decide_eq_true hwide, Bool.true_or]
    rfl
  · have hlo' : ¬ x.toInt < -(2 ^ 31) := by omega
    have hhi' : ¬ 2 ^ 31 ≤ x.toInt := by omega
    rw [min_eq_right (by omega), max_eq_right (by omega), BitVec.ofInt_toInt, decide_eq_false hlo', decide_eq_false hhi',
      Bool.false_or]

end Steps

end Sys2Proof.Machine

/-! ### The obligations of 40_alu.md -/

namespace Sys2Proof.Proofs

open Sys2Proof Sys2Proof.Machine Sys2Proof.Claim

/-- Settles O15: the operand is read as its integer, which with `addh`, of a 16-bit operand, still fits 36 bits. -/
theorem addInstructions : Obligations.AddInstructions := by
  unfold Obligations.AddInstructions
  intro i op d src s hwf hview hready
  have hbounds (e : Ext) := aluOperand_bounds src e s
  rw [exec_of_addView hview, aluOp_of_ready hready]
  rcases op_of_addView hview with rfl | rfl | rfl
  · rw [aluResult, AluOp.ext, add36_ofInt _ _ (hbounds _).1 (hbounds _).2]
    rfl
  · have hnarrow := aluOperand_bounds_of_narrow (narrow_of_addh hwf hview) .sign s
    rw [aluResult, AluOp.ext, ofInt_shl_16 (hbounds _).1 (hbounds _).2, add36_ofInt _ _ (by omega) (by omega)]
    rfl
  · rw [aluResult, AluOp.ext, add36_ofInt _ _ (hbounds _).1 (hbounds _).2]
    rfl

/-- Settles O16, as O15; a compare writes aX back as it was. -/
theorem subtractInstructions : Obligations.SubtractInstructions := by
  unfold Obligations.SubtractInstructions
  intro i op d src s hwf hview hready
  have hbounds (e : Ext) := aluOperand_bounds src e s
  rw [exec_of_subView hview, aluOp_of_ready hready]
  rcases op_of_subView hview with rfl | rfl | rfl | hcompare
  · rw [aluResult, AluOp.ext, sub36_ofInt _ _ (hbounds _).1 (hbounds _).2]
    rfl
  · have hnarrow := aluOperand_bounds_of_narrow (narrow_of_subh hwf hview) .sign s
    rw [aluResult, AluOp.ext, ofInt_shl_16 (hbounds _).1 (hbounds _).2, sub36_ofInt _ _ (by omega) (by omega)]
    rfl
  · rw [aluResult, AluOp.ext, sub36_ofInt _ _ (hbounds _).1 (hbounds _).2]
    rfl
  · rw [aluResult_compare hcompare _ _ _ (hbounds _).1 (hbounds _).2]
    simp only [Accs.set_get]
    rcases hcompare with rfl | rfl <;> rfl

/-- Settles O17: each bit of the result is a bit of the ALU output, or the old one where a short `and` keeps it. -/
theorem logicInstructions : Obligations.LogicInstructions := by
  unfold Obligations.LogicInstructions
  intro i op d src s hview hready
  have hop := op_of_logicView hview
  have hzero : op.ext = .zero := by rcases hop with rfl | rfl | rfl <;> rfl
  refine ⟨_, logicOutput op (s.accs.get d.ab) (BitVec.ofInt 36 (aluOperand src .zero s)),
    fun k _ => getLsbD_logicOutput op _ _ k, fun k hk => getLsbD_aluResult_logic hop src.isShort _ _ s.flags hk, ?_⟩
  rw [exec_of_logicView hview, aluOp_of_ready hready, hzero, ← aluResult_logic_flags hop src.isShort]

/-- Settles O21: in the view every instruction is guarded by its condition as a whole. -/
theorem conditionFalse : Obligations.ConditionFalse := by
  unfold Obligations.ConditionFalse
  intro i c s hview hfalse
  obtain ⟨taken, hexec⟩ := exec_of_condView (s := s) hview
  rw [holds_eq_condHolds] at hfalse
  rw [hexec, hfalse]
  rfl

/-- Settles O22: the barrel shifter is exact for every count, and a rotation moves the bits of x and C by one place. -/
theorem shiftsAndRotates : Obligations.ShiftsAndRotates := by
  unfold Obligations.ShiftsAndRotates
  constructor
  · intro i a c n s hview hholds
    obtain ⟨fn, hexec, hresult⟩ := exec_of_shiftFnView (s := s) hview
    rw [hexec, modify_of_holds hholds, hresult, shift36_result, Flags.shift_eq_shiftFlags]
  · intro i a c left s hview hholds
    refine ⟨rotated left (s.accs.get a) s.flags.c, fun k hk => getLsbD_rotated left _ _ hk, ?_⟩
    rw [exec_of_rotateView hview, modify_of_holds hholds, modResult_rotate]

/-- Settles O23: the shifted p enters as the exact shifted product. -/
theorem accumulatorFunctions : Obligations.AccumulatorFunctions := by
  unfold Obligations.AccumulatorFunctions
  intro i fn a c s hview hholds
  rw [← shiftedP_toInt, exec_of_accFnView hview, modify_of_holds hholds]
  exact ⟨_, accFn_eq_modResult (accFnView_not_shift hview) _ _ _ s.stat.s _, rfl⟩

/-- Settles O24, by the N flag: the shift of `norm` is the arithmetic one by one place. -/
theorem normalize : Obligations.Normalize := by
  unfold Obligations.Normalize
  intro d n m s
  cases hn : s.flags.n with
  | true => exact if_pos hn
  | false =>
    have hdouble : shifted (s.accs.get d.ab) 1 false = BitVec.ofInt 36 (2 * (s.accs.get d.ab).toInt) :=
      (shift36_result _ 1 false).symm.trans (Acc.double _)
    rw [← hdouble]
    exact normStep_of_not_n hn n

/-- Settles O25: the bit that is tested is the sign of the difference, and the bit that is set is 0 before. -/
theorem divideStep : Obligations.DivideStep := by
  unfold Obligations.DivideStep
  intro d a s hread
  exact divStep_of_readable hread

/-- Settles O26, by where the rival comes from. -/
theorem extremes : Obligations.Extremes := by
  unfold Obligations.Extremes
  intro i c o d m s hview hread
  cases o with
  | other => rw [exec_of_extremeView_other hview, extremum_eq]
  | data =>
    have hvalue (v : Word) : accFull v = BitVec.ofInt 36 v.toInt := Word.signExtend_int v
    rw [exec_of_extremeView_data hview, readData_of_readable (hread rfl), extremum_eq, hvalue]

/-- Settles O27, by the three cases of the clamp. -/
theorem limit : Obligations.Limit := by
  unfold Obligations.Limit
  intro i x d s hview
  obtain ⟨o, hexec, rfl, rfl⟩ := exec_of_limitView (s := s) hview
  rw [hexec, Machine.limit, limited_eq_clamp, Flags.setZMNE_eq_zmne]
  rfl

end Sys2Proof.Proofs

namespace Sys2Proof.Machine

open Sys2Proof.Claim

section Factors

/-! ### The operands of the multiplies (R261, R271 to R273) -/

variable {s : State} {i : Instr} {ym xm : Sign} {f : Factors} {a : Accumulation} {d : AX}

theorem State.dualInSpaces_eq_true_iff {j : RJ} {n : RI} : s.dualInSpaces j n = true ↔
    s.chip.yramconf.toNat * 1024 ≤ (s.ptr j.rn).toNat ∧ (s.ptr n.rn).toNat < s.chip.yramconf.toNat * 1024 := by
  unfold State.dualInSpaces Chip.inYspace Chip.upper
  rw [Bool.and_eq_true, Bool.not_eq_true', decide_eq_true_iff, decide_eq_false_iff_not, Nat.not_le]

/-- The model's reading of the operands of a multiply: the forms of `MulOperands`, the short immediate of `mpyi`, and the
one word that `sqr` and `sqra` take as both factors. -/
def readFactors (f : Factors) (s : State) (k : Word → Word → State → Out) : Out :=
  match f with
  | .y x => readSrc x s fun v t => k s.mul.y v t
  | .dual j jm n m => readMul (.dual j jm n m) s k
  | .long n m v => readMul (.indLong n m v) s k
  | .short v => k s.mul.y (v.signExtend 16) s
  | .square x => readSrc x s fun v t => k v v t

theorem exec_of_mpyView (h : mpyView i = some (ym, xm, f)) :
    exec i s = readFactors f s fun y x t => .next { t with mul := multiply ym xm y x } := by
  unfold mpyView at h
  split at h <;> cases h <;> rfl

theorem exec_of_macView (h : macView i = some (a, ym, xm, d, f)) :
    exec i s = readFactors f s fun y x t =>
      let o := accumulate (accModeOf a) (s.accs.get d.ab) (shiftedP s.mul s.stat.ps)
      .next { t with accs := t.accs.set d.ab o.r, flags := t.flags.arith o, mul := multiply ym xm y x } := by
  unfold macView at h
  split at h <;> cases h <;> rfl

theorem readMul_dual_of_ready {j : RJ} {n : RI} {jm m : PostMod} (h : factorsReady (.dual j jm n m) s = true)
    (k : Word → Word → State → Out) :
    readMul (.dual j jm n m) s k =
      k (Memory.word s.dmem (s.ptr j.rn)) (Memory.word s.dmem (s.ptr n.rn)) ((s.bump j.rn jm).bump n.rn m) := by
  simp only [factorsReady, Bool.and_eq_true, decide_eq_true_eq] at h
  obtain ⟨⟨hspaces, hy⟩, hx⟩ := h
  rw [readMul, if_pos (State.dualInSpaces_eq_true_iff.2 hspaces), readData_of_readable hy, readData_of_readable hx]

theorem readFactors_of_ready (h : factorsReady f s = true) (k : Word → Word → State → Out) :
    readFactors f s k = k (factorY f s) (factorX f s) (factorsRest f s) := by
  cases f with
  | y x => exact readSrc_of_ready h _
  | dual j jm n m => exact readMul_dual_of_ready h k
  | long n m v => exact readSrc_ind (m := m) h fun y t => k y v t
  | short v => rfl
  | square x => exact readSrc_of_ready h _

@[simp] theorem rest_accs (x : Src) (s : State) : (rest x s).accs = s.accs := by
  cases x <;> simp [rest]

@[simp] theorem rest_flags (x : Src) (s : State) : (rest x s).flags = s.flags := by
  cases x <;> simp [rest]

@[simp] theorem factorsRest_accs (f : Factors) (s : State) : (factorsRest f s).accs = s.accs := by
  cases f <;> simp [factorsRest]

@[simp] theorem factorsRest_flags (f : Factors) (s : State) : (factorsRest f s).flags = s.flags := by
  cases f <;> simp [factorsRest]

end Factors

section Products

/-! ### The product with its hidden sign bit is exact (R24, R65, R260) -/

theorem factor_bounds (k : Sign) (v : Word) : -(2 ^ 15) ≤ factor k v ∧ factor k v < 2 ^ 16 := by
  have hlo := v.le_toInt
  have hhi := v.toInt_lt
  have hnat := v.isLt
  cases k <;> simp only [factor] <;> omega

/-- With a signed factor the product has 32 bits with its sign. -/
theorem toInt_signed_mul_factor (y : Word) (k : Sign) (x : Word) :
    (BitVec.ofInt 32 (y.toInt * factor k x)).toInt = y.toInt * factor k x := by
  obtain ⟨hxlo, hxhi⟩ := factor_bounds k x
  have hy : |y.toInt| ≤ 2 ^ 15 := abs_le.2 ⟨y.le_toInt, y.toInt_lt.le⟩
  have hx : |factor k x| ≤ 2 ^ 16 - 1 := abs_le.2 ⟨by omega, by omega⟩
  have habs : |y.toInt * factor k x| ≤ 2 ^ 15 * (2 ^ 16 - 1) :=
    (abs_mul _ _).trans_le (mul_le_mul hy hx (abs_nonneg _) (by norm_num))
  obtain ⟨hlo, hhi⟩ := abs_le.1 habs
  exact BitVec.toInt_ofInt_eq_self (by decide) (by omega) (by omega)

/-- Of two unsigned factors it has 32 without a sign. -/
theorem toNat_unsigned_mul (y x : Word) : (BitVec.ofInt 32 ((y.toNat : Int) * x.toNat)).toNat = y.toNat * x.toNat := by
  have hfits : y.toNat * x.toNat < 2 ^ 16 * 2 ^ 16 := Nat.mul_lt_mul'' y.isLt x.isLt
  rw [← Int.natCast_mul, BitVec.ofInt_natCast, BitVec.toNat_ofNat]
  exact Nat.mod_eq_of_lt hfits

theorem product_multiplied (ym xm : Sign) (y x : Word) :
    product (multiplied ym xm y x) = factor ym y * factor xm x := by
  cases ym with
  | signed => exact toInt_signed_mul_factor y xm x
  | unsigned =>
    cases xm with
    | signed =>
      have hexact := toInt_signed_mul_factor x .unsigned y
      rwa [mul_comm] at hexact
    | unsigned => exact congrArg Nat.cast (toNat_unsigned_mul y x)

end Products

end Sys2Proof.Machine

/-! ### The obligations of 41_multiply.md -/

namespace Sys2Proof.Proofs

open Sys2Proof Sys2Proof.Machine Sys2Proof.Claim

/-- Settles O28: once read, the operands are multiplied, and the hidden sign bit says how the 32 bits of p are to be read. -/
theorem multiply : Obligations.Multiply := by
  unfold Obligations.Multiply
  intro i ym xm f s hview hready
  refine ⟨?_, product_multiplied ym xm _ _⟩
  rw [exec_of_mpyView hview, readFactors_of_ready hready, multiply_eq_multiplied]

/-- Settles O29: reading the operands leaves the accumulators and the flags, so the previous product enters those of s. -/
theorem multiplyAccumulate : Obligations.MultiplyAccumulate := by
  unfold Obligations.MultiplyAccumulate
  intro i a ym xm d f s hview hready
  rw [exec_of_macView hview, readFactors_of_ready hready, multiply_eq_multiplied, ← shiftedP_toInt,
    ← accumulate_eq_accumulated, factorsRest_accs, factorsRest_flags]

end Sys2Proof.Proofs

namespace Sys2Proof.Machine

open Sys2Proof.Claim

section BarrelShifts

/-! ### The barrel shifter of `shfi`, `shfc`, `movs` (R290, R291, R315, R316, R378) -/

variable {i : Instr} {x : Shiftee} {d : AB} {c : Cond} {k : BitVec 6} {v : Acc} {s : State}

@[simp] theorem rest_sv (x : Src) (s : State) : (rest x s).sv = s.sv := by
  cases x <;> simp [rest]

@[simp] theorem rest_stat (x : Src) (s : State) : (rest x s).stat = s.stat := by
  cases x <;> simp [rest]

@[simp] theorem shifteeRest_accs (x : Shiftee) (s : State) : (shifteeRest x s).accs = s.accs := by
  cases x <;> simp [shifteeRest]

@[simp] theorem shifteeRest_flags (x : Shiftee) (s : State) : (shifteeRest x s).flags = s.flags := by
  cases x <;> simp [shifteeRest]

@[simp] theorem shifteeRest_sv (x : Shiftee) (s : State) : (shifteeRest x s).sv = s.sv := by
  cases x <;> simp [shifteeRest]

@[simp] theorem shifteeRest_stat (x : Shiftee) (s : State) : (shifteeRest x s).stat = s.stat := by
  cases x <;> simp [shifteeRest]

/-- The model's reading of what is shifted: an accumulator as it stands, a 16-bit operand sign-extended (R315, R316, R378). -/
def readShiftee (x : Shiftee) (s : State) (k : Acc → State → Out) : Out :=
  match x with
  | .acc i => k (s.accs.get i) s
  | .word x => readSrc x s fun v t => k (v.signExtend 36) t

theorem readShiftee_of_ready (h : shifteeReady x s = true) (k : Acc → State → Out) :
    readShiftee x s k = k (shifteeValue x s) (shifteeRest x s) := by
  cases x with
  | acc i => rfl
  | word x =>
    rw [readShiftee, readSrc_of_ready h, Word.signExtend_int]
    rfl

/-- The state after v, shifted by n places, lands in accumulator d (R290). -/
def shiftLanded (v : Acc) (n : Int) (d : AB) (s : State) : State :=
  { s with accs := s.accs.set d (shifted v n s.stat.s), flags := shiftFlags s.flags v n s.stat.s }

theorem shiftLanded_shifteeRest (x : Shiftee) (v : Acc) (n : Int) (d : AB) (s : State) :
    shiftLanded v n d (shifteeRest x s) =
      { shifteeRest x s with
        accs := s.accs.set d (shifted v n s.stat.s), flags := shiftFlags s.flags v n s.stat.s } := by
  simp only [shiftLanded, shifteeRest_accs, shifteeRest_flags, shifteeRest_stat]

theorem shiftImm_eq_shiftLanded (src d : AB) (k : BitVec 6) (s : State) :
    shiftImm src d k s = .next (shiftLanded (s.accs.get src) k.toInt d s) := by
  simp only [shiftImm, shiftLanded, shift36_result, Flags.shift_eq_shiftFlags]

theorem shiftBySv_of_inside (hlo : -36 ≤ s.sv.toInt) (hhi : s.sv.toInt ≤ 36) :
    shiftBySv v d s = .next (shiftLanded v s.sv.toInt d s) := by
  rw [shiftBySv, if_pos ⟨hlo, hhi⟩]
  simp only [shiftLanded, shift36_result, Flags.shift_eq_shiftFlags]

/-- With another count the result and the flags but R are free (R291, log 7). -/
theorem shiftBySv_of_outside (h : s.sv.toInt < -36 ∨ 36 < s.sv.toInt) :
    shiftBySv v d s = .next
      { s with accs := s.accs.set d (Config.freeShift s.freeCtr)
               flags := s.flags.freeShift (Config.freeShiftFlags s.freeCtr)
               freeCtr := s.freeCtr + 1 } := by
  rw [shiftBySv, if_neg (by omega)]

theorem exec_of_shiftView_imm (h : shiftView i = some (some k, c, x, d)) :
    exec i s = readShiftee x s fun v t => .next (shiftLanded v k.toInt d t) := by
  unfold shiftView at h
  split at h <;> cases h
  exact shiftImm_eq_shiftLanded _ d k s

theorem exec_of_shiftView_sv (h : shiftView i = some (none, c, x, d)) (hholds : holds c s = true) :
    exec i s = readShiftee x s fun v t => shiftBySv v d t := by
  rw [holds_eq_condHolds] at hholds
  unfold shiftView at h
  split at h <;> cases h
  · exact if_pos hholds
  all_goals rfl

end BarrelShifts

end Sys2Proof.Machine

/-! ### The obligations of 42_bmu.md -/

namespace Sys2Proof.Proofs

open Sys2Proof Sys2Proof.Machine Sys2Proof.Claim

/-- Settles O32, by where the count comes from: reading the operand leaves sv, the S bit, the accumulators and the flags. -/
theorem barrelShift : Obligations.BarrelShift := by
  unfold Obligations.BarrelShift
  intro i k c x d s hview hholds hready hlo hhi
  cases k with
  | some k =>
    rw [exec_of_shiftView_imm hview, readShiftee_of_ready hready, shiftLanded_shifteeRest]
    rfl
  | none =>
    have hsv : shiftCount none s = (shifteeRest x s).sv.toInt := by rw [shifteeRest_sv]; rfl
    rw [hsv] at hlo hhi ⊢
    rw [exec_of_shiftView_sv hview hholds, readShiftee_of_ready hready, shiftBySv_of_inside hlo hhi,
      shiftLanded_shifteeRest]

/-- Settles O33: the free value and the free flags are those of the free-value counter after the operand is read. -/
theorem shiftCountOutside : Obligations.ShiftCountOutside := by
  unfold Obligations.ShiftCountOutside
  intro i c x d s hview hholds hready hout
  rw [← shifteeRest_sv x s] at hout
  rw [exec_of_shiftView_sv hview hholds, readShiftee_of_ready hready, shiftBySv_of_outside hout, shifteeRest_accs,
    shifteeRest_flags]
  exact ⟨_, _, Flags.freeShift_r _ _, rfl⟩

end Sys2Proof.Proofs

namespace Sys2Proof.Machine

open Sys2Proof.Claim

section SaturatedReads

/-! ### The saturated read of an accumulator part (R31, R330) -/

variable {s : State} {x : Acc} {r : Reg}

theorem clamped_of_not_wide (h : wide x = false) (sat : Bool) : clamped sat x = x.toInt := by
  simp only [wide, Bool.or_eq_false_iff, decide_eq_false_iff_not] at h
  cases sat <;> simp only [clamped, if_true, Bool.false_eq_true, if_false]
  omega

/-- A value of more than 32 bits is clamped to the end of the range that its sign bit names. -/
theorem clamped_of_wide (h : wide x = true) :
    clamped false x = if x.msb then -(2 ^ 31) else 2 ^ 31 - 1 := by
  simp only [wide, Bool.or_eq_true, decide_eq_true_eq] at h
  simp only [clamped, BitVec.msb_eq_toInt, decide_eq_true_eq, Bool.false_eq_true, if_false]
  split_ifs <;> omega

/-- The part that is read is that of the clamped value, and the read reports a value that did not fit (R31). -/
theorem satRead_eq_clamped (sat high : Bool) (x : Acc) :
    satRead sat high x =
      ((BitVec.ofInt 36 (clamped sat x)).extractLsb' (if high then 16 else 0) 16, !sat && wide x) := by
  rw [satRead, fits32_eq_not_wide, Bool.not_not]
  cases hlimit : !sat && wide x with
  | true =>
    obtain ⟨hsat, hwide⟩ := Bool.and_eq_true_iff.1 hlimit
    rw [Bool.not_eq_true'] at hsat
    rw [hsat, clamped_of_wide hwide, if_pos rfl]
    cases x.msb <;> cases high <;> rfl
  | false =>
    have hkept : clamped sat x = x.toInt := by
      cases sat with
      | true => rfl
      | false => exact clamped_of_not_wide hlimit false
    rw [hkept, BitVec.ofInt_toInt, if_neg (by decide)]
    cases high <;> rfl

theorem readPart_eq (s : State) (i : AB) (high : Bool) (k : Word → State → Out) :
    readPart s i high k = k (srcValue (.part i high) s) (latched s i) := by
  rw [readPart, satRead_eq_clamped]
  rfl

theorem partOf_eq_part (r : Reg) : partOf r = (Reg.part r).map fun q => (q.1, if q.2 then 16 else 0) := by
  cases r <;> rfl

/-- A register as the source of a move: a part through the saturation logic, any other as it stands (R330). -/
theorem readMovSource_of_ready (h : srcReady (.reg r) s = true) (k : Word → State → Out) :
    readMovSource s r k = k (srcValue (.reg r) s) (srcRest (.reg r) s) := by
  simp only [srcReady, srcValue, srcRest, partOf_eq_part] at h ⊢
  rw [readMovSource]
  cases hpart : Reg.part r with
  | some q => exact readPart_eq s q.1 q.2 k
  | none =>
    rw [hpart] at h
    obtain ⟨h16, hhas⟩ := regReady_iff.1 h
    exact readReg_of_ready h16 hhas k

end SaturatedReads

section MoveSources

/-! ### The sources of the moves (R330 to R387) -/

variable {s : State} {w : WordSrc}

/-- The model's reading of the source of a move: one read for each form. Of the ALU operands a move takes those at a data
address only; for the others, which no view has, the value is the claim's own. -/
def readWord (w : WordSrc) (s : State) (k : Word → State → Out) : Out :=
  match w with
  | .reg r => readMovSource s r k
  | .part i high => readPart s i high k
  | .imm v => k v s
  | .ind n m => readData s (s.ptr n) fun v t => k v (t.bump n m)
  | .data (.direct a) => readData s (s.addrDirect a) k
  | .data (.idx7 o) => readData s (s.addrIdx7 o) k
  | .data (.idx16 o) => readData s (s.addrIdx16 o) k
  | .data (.dirLong a) => readData s a k
  | .data (.ind n m) => k (srcValue (.data (.ind n m)) s) s
  | .data (.reg r) => k (srcValue (.data (.reg r)) s) s
  | .data (.short v) => k (srcValue (.data (.short v)) s) s
  | .data (.long v) => k (srcValue (.data (.long v)) s) s
  | .top => readData s s.dau.sp k
  | .pop => pop s k
  | .prog d => readProg s (low16 (s.accs.get d.ab)) k
  | .mixp => k s.dau.mixp s
  | .x => k s.mul.x s
  | .repc => k s.loops.repc s
  | .dvm => k s.dvm s

theorem pop_of_readable (h : s.readable s.dau.sp = true) (k : Word → State → Out) :
    pop s k = k (Memory.word s.dmem s.dau.sp) { s with dau := { s.dau with sp := s.dau.sp + 1 } } :=
  readData_of_readable h fun v t => k v { t with dau := { t.dau with sp := s.dau.sp + 1 } }

theorem push_of_writable {v : Word} (h : s.writable (s.dau.sp - 1) = true) (k : State → Out) :
    push s v k =
      k { s with dmem := Memory.setWord s.dmem (s.dau.sp - 1) v, dau := { s.dau with sp := s.dau.sp - 1 } } :=
  writeData_of_writable h fun t => k { t with dau := { t.dau with sp := s.dau.sp - 1 } }

theorem low16_eq_setWidth (x : Acc) : low16 x = x.setWidth 16 := by
  apply BitVec.eq_of_toNat_eq
  rw [low16, BitVec.extractLsb'_toNat, BitVec.toNat_setWidth, Nat.shiftRight_zero]

theorem readWord_of_ready (h : srcReady w s = true) (k : Word → State → Out) :
    readWord w s k = k (srcValue w s) (srcRest w s) := by
  cases w with
  | reg r => exact readMovSource_of_ready h k
  | part i high => exact readPart_eq s i high k
  | ind n m => exact readData_of_readable h fun v t => k v (t.bump n m)
  | data x =>
    cases x with
    | direct a | idx7 o | idx16 o | dirLong a =>
      refine (readData_of_readable h k).trans (congrArg (k · s) ?_)
      exact (BitVec.ofInt_toInt).symm
    | ind | reg | short | long => rfl
  | top => exact readData_of_readable h k
  | pop => exact pop_of_readable h k
  | prog d =>
    rw [readWord, low16_eq_setWidth, readProg_of_readable h]
    rfl
  | imm | mixp | x | repc | dvm => rfl

@[simp] theorem srcRest_accs (w : WordSrc) (s : State) : (srcRest w s).accs = s.accs := by
  cases w with
  | reg r => rw [srcRest]; split <;> simp [latched]
  | _ => simp [srcRest, latched]

@[simp] theorem srcRest_stat (w : WordSrc) (s : State) : (srcRest w s).stat = s.stat := by
  cases w with
  | reg r => rw [srcRest]; split <;> simp [latched]
  | _ => simp [srcRest, latched]

@[simp] theorem srcRest_dmem (w : WordSrc) (s : State) : (srcRest w s).dmem = s.dmem := by
  cases w with
  | reg r => rw [srcRest]; split <;> simp [latched]
  | _ => simp [srcRest, latched]

@[simp] theorem srcRest_chip (w : WordSrc) (s : State) : (srcRest w s).chip = s.chip := by
  cases w with
  | reg r => rw [srcRest]; split <;> simp [latched]
  | _ => simp [srcRest, latched]

/-- Reading the source moves no pointer. -/
def leavesPointers (w : WordSrc) : Bool :=
  match w with
  | .ind _ _ | .pop => false
  | .reg _ | .part _ _ | .imm _ | .data _ | .top | .prog _ | .mixp | .x | .repc | .dvm => true

theorem srcRest_dau_of_leavesPointers (h : leavesPointers w = true) (s : State) : (srcRest w s).dau = s.dau := by
  cases w with
  | ind | pop => cases h
  | reg r => rw [srcRest]; split <;> simp [latched]
  | _ => rfl

end MoveSources

section Moves

/-! ### The moves, by where the word goes (R331 to R387) -/

variable {i : Instr} {w : WordSrc} {s : State} {r : Reg} {v : AccValue} {d : AB} {g : Target} {q : Special} {x : Src}

theorem State.hasReg_congr {t : State} (h : t.chip = s.chip) (r : Reg) : t.hasReg r = s.hasReg r := by
  cases r <;> simp only [State.hasReg, State.extKind, h]

theorem srcReady_p (s : State) : srcReady (.reg .p) s = false := rfl

theorem movRegToReg_of_ready (h : srcReady (.reg r) s = true) (d : Reg) :
    movRegToReg r d s = readWord (.reg r) s fun v t => writeMovDest t d v := by
  have hp : r ≠ .p := by
    rintro rfl
    exact absurd h (by simp [srcReady_p])
  rw [movRegToReg, if_neg hp]
  rfl

theorem exec_of_regDestView (h : regDestView i = some (w, r)) (hready : srcReady w s = true) :
    exec i s = readWord w s fun v t => writeMovDest t r v := by
  unfold regDestView at h
  split at h <;> cases h
  · exact movRegToReg_of_ready hready _
  all_goals rfl

theorem State.setAccFlags_eq_accLanded (s : State) (d : AB) (x : Acc) : s.setAccFlags d x = accLanded s d x := by
  rw [State.setAccFlags, Flags.setZMNE_eq_zmne]
  rfl

/-- The model's reading of what a move puts into accumulator d (R30, R331, R332, R345). -/
def readAccValue (v : AccValue) (d : AB) (s : State) (k : Acc → State → Out) : Out :=
  match v with
  | .full w => readWord w s fun x t => k (accFull x) t
  | .low w => readWord w s fun x t => k (accLow x) t
  | .high w => readWord w s fun x t => k (accHigh x) t
  | .highKeep w => readWord w s fun x t => k ((t.accs.get d).extractLsb' 32 4 ++ (x ++ (0 : BitVec 16))) t
  | .acc i => k (s.accs.get i) s
  | .product => k (shiftedP s.mul s.stat.ps) s

theorem exec_of_accDestView (h : accDestView i = some (v, d)) :
    exec i s = readAccValue v d s fun x t => .next (t.setAccFlags d x) := by
  unfold accDestView at h
  split at h <;> cases h <;> rfl

/-- The word in the high part, under the old extension nibble and over zeros (R345). -/
theorem highKeep_eq (x : Acc) (v : Word) :
    x.extractLsb' 32 4 ++ (v ++ (0 : BitVec 16)) = (x &&& 0xF00000000) ||| BitVec.ofNat 36 (v.toNat * 65536) := by
  have hmask : ∀ k : Nat, k < 36 → (0xF00000000 : Acc).getLsbD k = decide (¬ k < 32) := by decide
  have hword : BitVec.ofNat 36 (v.toNat * 65536) = v.setWidth 36 <<< 16 := by
    apply BitVec.eq_of_toNat_eq
    simp [Nat.shiftLeft_eq]
  apply BitVec.eq_of_getLsbD_eq
  intro k hk
  rw [hword]
  simp only [BitVec.getLsbD_append, BitVec.getLsbD_or, BitVec.getLsbD_and, hmask k hk, BitVec.getLsbD_extractLsb',
    BitVec.getLsbD_shiftLeft, BitVec.getLsbD_setWidth]
  by_cases h32 : k < 32
  · by_cases h16 : k < 16
    · simp [h32, h16]
    · simp [h32, h16, show k < 36 from hk, show k - 16 < 36 by omega]
  · have hover : v.getLsbD (k - 16) = false := v.getLsbD_of_ge _ (by omega)
    simp [h32, hover, show k - 32 < 4 by omega, show 32 + (k - 32) = k by omega]

theorem readAccValue_of_ready (h : accValueReady v s = true) (k : Acc → State → Out) :
    readAccValue v d s k = k (accValue v d s) (accValueRest v s) := by
  have hfull (v : Word) : accFull v = BitVec.ofInt 36 v.toInt := Word.signExtend_int v
  have hlow (v : Word) : accLow v = BitVec.ofNat 36 v.toNat := (BitVec.ofNat_toNat 36 v).symm
  have hhigh (v : Word) : accHigh v = BitVec.ofInt 36 (v.toInt * 65536) := highAcc_int v
  cases v with
  | full w => rw [readAccValue, readWord_of_ready h, hfull]; rfl
  | low w => rw [readAccValue, readWord_of_ready h, hlow]; rfl
  | high w => rw [readAccValue, readWord_of_ready h, hhigh]; rfl
  | highKeep w => rw [readAccValue, readWord_of_ready h, highKeep_eq, srcRest_accs]; rfl
  | acc i => rfl
  | product => rw [readAccValue, accValue, ← shiftedP_toInt, BitVec.ofInt_toInt]; rfl

/-- The store of a word at the target of a move or a push, in the state after the source is read. -/
def storeWord (g : Target) (s : State) (v : Word) : Out :=
  match g with
  | .ind n m => writeData s (s.ptr n) v fun t => .next (t.bump n m)
  | .push => push s v .next
  | .direct a => writeData s (s.addrDirect a) v .next
  | .long a => writeData s a v .next
  | .idx7 o => writeData s (s.addrIdx7 o) v .next
  | .idx16 o => writeData s (s.addrIdx16 o) v .next

/-- rN*, like sv, is read as it stands: it is no part, no status register and no extX (R340, R347). -/
theorem readMovSource_rnStar (n : RNStar) (s : State) (k : Word → State → Out) :
    readMovSource s n.reg k = k (s.regValue n.reg) s := by
  cases n <;> rfl

theorem exec_of_memDestView (h : memDestView i = some (w, g)) :
    exec i s = readWord w s fun v t => storeWord g t v := by
  unfold memDestView at h
  split at h <;> cases h
  · rfl
  · exact (readMovSource_rnStar _ s fun v t => storeWord (.direct _) t v).symm
  all_goals rfl

theorem leavesPointers_of_memDestView (h : memDestView i = some (w, g)) : leavesPointers w = true := by
  unfold memDestView at h
  split at h <;> cases h <;> rfl

theorem targetAddr_congr {t : State} (hdau : t.dau = s.dau) (hstat : t.stat = s.stat) (g : Target) :
    targetAddr g t = targetAddr g s := by
  cases g <;> simp only [targetAddr, State.ptr, hdau, hstat]

theorem storeWord_of_writable {v : Word} (h : s.writable (targetAddr g s) = true) :
    storeWord g s v = .next { targetRest g s with dmem := Memory.setWord s.dmem (targetAddr g s) v } := by
  cases g with
  | ind n m =>
    exact (writeData_of_writable h fun t => .next (t.bump n m)).trans (congrArg _ (s.bump_dmem_comm n m _))
  | push => exact push_of_writable h _
  | direct | long | idx7 | idx16 => exact writeData_of_writable h _

theorem Icr.write_eq_icrWritten (i : Icr) (v : Word) : i.write v = icrWritten i v := by
  unfold Icr.write icrWritten
  cases v.getLsbD 4 <;> simp

theorem exec_of_specialView (h : specialView i = some (w, q)) :
    exec i s = readWord w s fun v t => .next (specialWritten t q v) := by
  unfold specialView at h
  split at h <;> cases h
  · rfl
  · rfl
  · simp only [specialWritten, ← Icr.write_eq_icrWritten]; rfl
  · simp only [specialWritten, ← Icr.write_eq_icrWritten]; rfl
  all_goals rfl

theorem exec_of_roundView (h : roundView i = some (x, d)) : exec i s = movRound d x s := by
  unfold roundView at h
  split at h <;> cases h <;> rfl

/-- The addition of `movr` (R376, D28). -/
theorem add36_highAcc (f : Flags) (v : Word) :
    ((add36 (highAcc v) 0x8000).r, f.arith (add36 (highAcc v) 0x8000)) =
      plus f (BitVec.ofInt 36 (v.toInt * 65536)) 0x8000 := by
  rw [← highAcc_int]
  exact add36_eq_plus f (highAcc v) 0x8000

theorem movRound_of_ready (h : ready x s = true) :
    movRound d x s = .next
      (let r := plus s.flags (BitVec.ofInt 36 ((value x s).toInt * 65536)) 0x8000
       { rest x s with accs := s.accs.set d r.1, flags := r.2 }) := by
  rw [movRound, readSrc_of_ready h, ← add36_highAcc, rest_accs, rest_flags]

end Moves

section ProgramSpace

/-! ### The moves between the two memories (R371, R372) -/

variable {s : State} {n : RN} {i : RI} {j : RJ} {m im jm : PostMod}

theorem State.bump_bump_dmem_comm (s : State) (n k : RN) (m l : PostMod) (d : List Host.Cell) :
    (({ s with dmem := d } : State).bump n m).bump k l = { (s.bump n m).bump k l with dmem := d } := by
  rw [State.bump_dmem_comm s n m d]
  exact State.bump_dmem_comm (s.bump n m) k l d

theorem State.bump_bump_pmem_comm (s : State) (n k : RN) (m l : PostMod) (d : List Host.Cell) :
    (({ s with pmem := d } : State).bump n m).bump k l = { (s.bump n m).bump k l with pmem := d } := by
  rw [State.bump_pmem_comm s n m d]
  exact State.bump_pmem_comm (s.bump n m) k l d

theorem movProgToData_of_readable (hread : s.progReadable (s.ptr n) = true) (hwrite : s.writable (s.ptr i.rn) = true) :
    movProgToData n m i im s = .next
      (if n = i.rn then
        { s.setPtr n (Config.freePointer s.freeCtr) with
          dmem := Memory.setWord s.dmem (s.ptr i.rn) (Memory.word s.pmem (s.ptr n)), freeCtr := s.freeCtr + 1 }
      else
        { (s.bump n m).bump i.rn im with
          dmem := Memory.setWord s.dmem (s.ptr i.rn) (Memory.word s.pmem (s.ptr n)) }) := by
  rw [movProgToData, readProg_of_readable hread, writeData_of_writable hwrite]
  split
  · cases n <;> rfl
  · rw [State.bump_bump_dmem_comm]

theorem movDataToProg_of_ready (hne : ¬ (s.ptr j.rn = s.pc - 1 ∨ s.ptr j.rn = s.pc))
    (hread : s.readable (s.ptr i.rn) = true) (hwrite : s.progWritable (s.ptr j.rn) = true) :
    movDataToProg i im j jm s = .next
      { (s.bump i.rn im).bump j.rn jm with
        pmem := Memory.setWord s.pmem (s.ptr j.rn) (Memory.word s.dmem (s.ptr i.rn)) } := by
  rw [movDataToProg, if_neg hne, readData_of_readable hread, writeProg_of_writable hwrite,
    State.bump_bump_pmem_comm]

end ProgramSpace

section Exchanges

/-! ### `swap` and `banke` (R390, R392) -/

/-- The accumulators that an option of `swap` leaves, each from the one that the table names, and the new value that the
flags describe (R390). -/
theorem swapResult_eq (o : SwapOp) (a : Accs) :
    swapResult o a =
      ({ a0 := a.get (swapSources o).1.1, a1 := a.get (swapSources o).1.2.1,
         b0 := a.get (swapSources o).1.2.2.1, b1 := a.get (swapSources o).1.2.2.2 },
       a.get (swapSources o).2) := by
  cases o <;> rfl

/-- A pair that a bit of `banke` exchanges or keeps (R392). -/
theorem exchange_cases (b : Bool) (x y : Word) :
    if b then (if b then y else x) = y ∧ (if b then x else y) = x
    else (if b then y else x) = x ∧ (if b then x else y) = y := by
  cases b <;> exact ⟨rfl, rfl⟩

end Exchanges

end Sys2Proof.Machine

/-! ### The obligations of 43_move.md -/

namespace Sys2Proof.Proofs

open Sys2Proof Sys2Proof.Machine Sys2Proof.Claim

/-- Settles O34: the barrel shifter on the sign-extended register, with V cleared in arithmetic mode. -/
theorem moveShiftImmediate : Obligations.MoveShiftImmediate := by
  unfold Obligations.MoveShiftImmediate
  intro n d k s
  have hv : (if s.stat.s then s.flags.v else false) = (s.flags.v && s.stat.s) := by
    cases s.stat.s <;> simp
  change movShiftImm n d k s = _
  simp only [movShiftImm, Word.signExtend_int, shift36_result, shift36_carry, Flags.setZMNE_eq_zmne, ← hv]
  rfl

/-- Settles O36: the source is read, which leaves the chip as it is, and the register takes the word. -/
theorem moveToRegister : Obligations.MoveToRegister := by
  unfold Obligations.MoveToRegister
  intro i w r s hview hready hhas
  have hhas' : (srcRest w s).hasReg r = true := (State.hasReg_congr (srcRest_chip w s) r).trans hhas
  rw [exec_of_regDestView hview hready, readWord_of_ready hready, writeMovDest_of_hasReg hhas']

/-- Settles O37, by what is put into the accumulator. -/
theorem moveToAccumulator : Obligations.MoveToAccumulator := by
  unfold Obligations.MoveToAccumulator
  intro i v d s hview hready
  rw [exec_of_accDestView hview, readAccValue_of_ready hready, State.setAccFlags_eq_accLanded]

/-- Settles O38: the high byte is the free value numbered by the free-value counter. -/
theorem moveIcrToAccumulator : Obligations.MoveIcrToAccumulator := by
  unfold Obligations.MoveIcrToAccumulator
  intro d s
  refine ⟨Config.freeIcr s.freeCtr, ?_⟩
  rw [← Word.signExtend_int, ← State.setAccFlags_eq_accLanded]
  rfl

/-- Settles O39: no source of a store moves a pointer, so the word goes to the address the form names before it. -/
theorem moveToMemory : Obligations.MoveToMemory := by
  unfold Obligations.MoveToMemory
  intro i w g s hview hready hwrite hwf
  have haddr : targetAddr g (srcRest w s) = targetAddr g s :=
    targetAddr_congr (srcRest_dau_of_leavesPointers (leavesPointers_of_memDestView hview) s) (srcRest_stat w s) g
  have hwrite' : (srcRest w s).writable (targetAddr g (srcRest w s)) = true := by
    rw [haddr, State.writable_congr (srcRest_chip w s), hwrite]
  rw [exec_of_memDestView hview, readWord_of_ready hready, storeWord_of_writable hwrite', haddr, srcRest_dmem]
  exact ⟨_, rfl, stored_setWord hwf _ _, rfl⟩

/-- Settles O40: the source is read, and the register takes the word. -/
theorem moveToSpecial : Obligations.MoveToSpecial := by
  unfold Obligations.MoveToSpecial
  intro i w g s hview hready
  rw [exec_of_specialView hview, readWord_of_ready hready]

/-- Settles O41: the word is read and stored before either pointer moves. -/
theorem programMoves : Obligations.ProgramMoves := by
  unfold Obligations.ProgramMoves
  refine ⟨?movp, ?movpSame, ?movd, ?movdSelf⟩
  case movp =>
    intro n m i im s hne hread hwrite hwf
    have hexec := movProgToData_of_readable (m := m) (im := im) hread hwrite
    rw [if_neg hne] at hexec
    exact ⟨_, hexec, stored_setWord hwf _ _, rfl⟩
  case movpSame =>
    intro m i im s hread hwrite hwf
    have hexec := movProgToData_of_readable (m := m) (im := im) hread hwrite
    rw [if_pos rfl] at hexec
    exact ⟨_, _, hexec, stored_setWord hwf _ _, rfl⟩
  case movd =>
    intro i im j jm s hne hne' hread hwrite hwf
    have hother : ¬ (s.ptr j.rn = s.pc - 1 ∨ s.ptr j.rn = s.pc) := not_or.2 ⟨hne', hne⟩
    exact ⟨_, movDataToProg_of_ready hother hread hwrite, stored_setWord hwf _ _, rfl⟩
  case movdSelf =>
    exact fun i im j jm s hself => if_pos hself.symm

/-- Settles O42: the sum of `movr` is one addition of accumulators. -/
theorem moveRound : Obligations.MoveRound := by
  unfold Obligations.MoveRound
  intro i x d s hview hready
  rw [exec_of_roundView hview, movRound_of_ready hready]

/-- Settles O43: `swap` by its options, `banke` pair by pair. -/
theorem exchanges : Obligations.Exchanges := by
  unfold Obligations.Exchanges
  constructor
  · intro o s
    change swapAccs o s = _
    rw [swapAccs, swapResult_eq, Flags.setZMNE_eq_zmne]
  · intro k s
    exact ⟨_, rfl, rfl, exchange_cases _ _ _, exchange_cases _ _ _, exchange_cases _ _ _, exchange_cases _ _ _,
      rfl, rfl, rfl, rfl, rfl, rfl, rfl⟩

end Sys2Proof.Proofs

namespace Sys2Proof.Machine

open Sys2Proof.Claim

section Invariant

/-! ### What the meanings of the instructions keep of the invariant (R43, R402, R404 to R409, R442) -/

variable {s t u : State} {k : Kind}

/-- A memory is canonical and inside its space. -/
def Memory.Lawful (m : List Host.Cell) : Prop := Memory.wf m = true ∧ Memory.inSpace m = true

theorem Memory.Lawful.setWord {m : List Host.Cell} (h : Memory.Lawful m) (a v : Word) :
    Memory.Lawful (Memory.setWord m a v) :=
  ⟨Memory.wf_setWord h.1 a v, Memory.inSpace_setWord h.2 a v⟩

/-- The part of the invariant that an instruction may break only by a store or by a write to icr: both memories canonical
and inside their spaces, BC and LP legal. -/
def State.Lawful (s : State) : Prop := Memory.Lawful s.dmem ∧ Memory.Lawful s.pmem ∧ s.icr.levelsOk = true

theorem State.inv_iff : s.Inv ↔ s.Lawful ∧ s.slotOk = true ∧ s.svc.hold.small = true := by
  simp only [State.Inv, State.inv, State.Lawful, Memory.Lawful, Bool.and_eq_true, and_assoc]

theorem State.Lawful.congr (h : s.Lawful) (hd : t.dmem = s.dmem) (hp : t.pmem = s.pmem) (hi : t.icr = s.icr) :
    t.Lawful := by
  rwa [State.Lawful, hd, hp, hi]

/-- What an instruction of kind k keeps on its way from s to t: the lawful part of the invariant; the waiting delayed
return, unless it begins one, with two cycles; whether a repeat is active, unless it is a `rep` or a branch (a return may
resume one, R403). -/
def Keeps (k : Kind) (s t : State) : Prop :=
  (s.Lawful → t.Lawful) ∧
  (t.svc.dret = s.svc.dret ∨ k = .delayedReturn ∧ ∃ d, t.svc.dret = some d ∧ d.left = 2) ∧
  (t.loops.repActive = s.loops.repActive ∨ k = .rep ∨ k = .branch)

/-- Every next state an outcome answers keeps what `Keeps` says. -/
def KeepsOut (k : Kind) (s : State) (o : Out) : Prop := ∀ t, o = .next t → Keeps k s t

theorem Keeps.refl : Keeps k s s := ⟨id, .inl rfl, .inl rfl⟩

theorem Keeps.trans (h : Keeps k s u) (g : Keeps k u t) : Keeps k s t := by
  obtain ⟨hlawful, hdret, hrep⟩ := h
  obtain ⟨glawful, gdret, grep⟩ := g
  exact ⟨glawful ∘ hlawful, gdret.elim (fun e => e ▸ hdret) .inr, grep.elim (fun e => e ▸ hrep) .inr⟩

@[simp] theorem State.setReg_repActive (s : State) (r : Reg) (v : Word) :
    (s.setReg r v).loops.repActive = s.loops.repActive := by
  cases r with
  | ext0 | ext1 | ext2 | ext3 => exact congrArg Loops.repActive (State.writeExt_loops ..)
  | _ => rfl

@[simp] theorem State.movReg_repActive (s : State) (r : Reg) (v : Word) :
    (s.movReg r v).loops.repActive = s.loops.repActive := by
  unfold State.movReg; dsimp only; split <;> simp

@[simp] theorem State.setRegPart_repActive (s : State) (r : Reg) (v : Word) :
    (s.setRegPart r v).loops.repActive = s.loops.repActive := by
  unfold State.setRegPart; split <;> simp

/-- What the invariant reads of a state, the hold counters apart. -/
def State.guarded (s : State) : List Host.Cell × List Host.Cell × Icr × Option DelayedReturn × Bool :=
  (s.dmem, s.pmem, s.icr, s.svc.dret, s.loops.repActive)

/-- An update of registers: it leaves the memories, icr, the delayed return and the repeat alone. -/
theorem Keeps.update (h : Keeps k s u) (e : t.guarded = u.guarded) : Keeps k s t := by
  simp only [State.guarded, Prod.mk.injEq] at e
  obtain ⟨hd, hp, hi, hr, hl⟩ := e
  exact h.trans ⟨fun hu => hu.congr hd hp hi, .inl hr, .inl hl⟩

theorem Keeps.setPtr (h : Keeps k s u) (n : RN) (v : Word) : Keeps k s (u.setPtr n v) :=
  h.update (by simp [State.guarded])

theorem Keeps.bump (h : Keeps k s u) (n : RN) (m : PostMod) : Keeps k s (u.bump n m) := h.setPtr n _

theorem Keeps.movReg (h : Keeps k s u) (r : Reg) (v : Word) : Keeps k s (u.movReg r v) :=
  h.update (by simp [State.guarded])

theorem Keeps.setRegPart (h : Keeps k s u) (r : Reg) (v : Word) : Keeps k s (u.setRegPart r v) :=
  h.update (by simp [State.guarded])

/-- A return may resume a saved repeat (R403). -/
theorem Keeps.returnTo (h : Keeps .branch s u) (a : Word) : Keeps .branch s (u.returnTo a) :=
  h.trans ⟨fun hu => hu.congr (State.returnTo_dmem u a) (State.returnTo_pmem u a) (State.returnTo_icr u a),
    .inl (congrArg Service.dret (State.returnTo_svc u a)), .inr (.inr rfl)⟩

theorem Keeps.store (h : Keeps k s u) (a v : Word) : Keeps k s { u with dmem := Memory.setWord u.dmem a v } :=
  h.trans ⟨fun ⟨hd, hp, hi⟩ => ⟨hd.setWord a v, hp, hi⟩, .inl rfl, .inl rfl⟩

theorem Keeps.storeProg (h : Keeps k s u) (a v : Word) : Keeps k s { u with pmem := Memory.setWord u.pmem a v } :=
  h.trans ⟨fun ⟨hd, hp, hi⟩ => ⟨hd, hp.setWord a v, hi⟩, .inl rfl, .inl rfl⟩

/-- A change of the levels in icr, and with them of the level stack. -/
theorem Keeps.levels (h : Keeps k s u) {i : Icr} {l : Loops} (hi : u.icr.levelsOk = true → i.levelsOk = true)
    (hl : l.repActive = u.loops.repActive) : Keeps k s { u with icr := i, loops := l } :=
  h.trans ⟨fun ⟨hd, hp, hu⟩ => ⟨hd, hp, hi hu⟩, .inl rfl, .inl hl⟩

theorem AfterRead.keeps (h : AfterRead s u) : Keeps k s u := by
  rw [h.frame]
  exact Keeps.refl.update rfl

/-! ### The levels that icr counts (R404, R406, R408, R409, R44) -/

theorem Icr.levelsOk_write {i : Icr} (h : i.levelsOk = true) (v : Word) : (i.write v).levelsOk = true := by
  unfold Icr.write Icr.levelsOk
  split_ifs
  · rfl
  · exact h

/-- `Icr.levelsOk` of the two fields it reads, after a level is opened. -/
theorem levels_push : ∀ bc : BitVec 3, bc.toNat < 4 →
    (decide ((bc + 1).toNat ≤ 4) && true == (bc + 1 != 0)) = true := by
  decide

/-- The same after one is popped. -/
theorem levels_pop : ∀ (bc : BitVec 3) (lp : Bool), (decide (bc.toNat ≤ 4) && lp == (bc != 0)) = true → bc ≠ 0 →
    (decide ((bc - 1).toNat ≤ 4) && (if bc - 1 = 0 then false else lp) == (bc - 1 != 0)) = true := by
  decide

theorem Keeps.popLevel (h : Keeps k s u) (hbc : u.icr.bc ≠ 0) : Keeps k s u.popLevel :=
  h.levels (fun hl => levels_pop _ _ hl hbc) rfl

/-! ### The shared operations -/

theorem KeepsOut.next (h : Keeps k s t) : KeepsOut k s (.next t) := by
  rintro _ ⟨⟩
  exact h

theorem KeepsOut.refused (r : Refusal) : KeepsOut k s (.refused r) := by
  rintro _ ⟨⟩

theorem KeepsOut.ite {c : Prop} [Decidable c] {o o' : Out} (h : c → KeepsOut k s o) (h' : ¬ c → KeepsOut k s o') :
    KeepsOut k s (if c then o else o') := by
  by_cases hc : c
  · rw [if_pos hc]; exact h hc
  · rw [if_neg hc]; exact h' hc

theorem KeepsOut.readData {a : Word} {f : Word → State → Out} (hu : Keeps k s u)
    (h : ∀ v w, Keeps k s w → KeepsOut k s (f v w)) : KeepsOut k s (readData u a f) := by
  intro t ht
  obtain ⟨v, w, hw, ht⟩ := readData_next ht
  exact h v w (hu.trans hw.keeps) t ht

theorem KeepsOut.writeData {a v : Word} {f : State → Out} (hu : Keeps k s u)
    (h : ∀ w, Keeps k s w → KeepsOut k s (f w)) : KeepsOut k s (writeData u a v f) := by
  intro t ht
  rcases writeData_eq_next.1 ht with ⟨-, ht⟩ | ⟨-, ht⟩ | ⟨-, ht⟩
  · exact h _ (hu.store a v) t ht
  · exact h _ hu t ht
  · exact h _ (hu.update (t := u.presentWrite .data a v) rfl) t ht

theorem KeepsOut.readProg {a : Word} {f : Word → State → Out} (hu : Keeps k s u)
    (h : ∀ v w, Keeps k s w → KeepsOut k s (f v w)) : KeepsOut k s (readProg u a f) := by
  intro t ht
  rcases readProg_eq_next.1 ht with ⟨-, ht⟩ | ⟨-, ht⟩
  · exact h _ _ hu t ht
  · exact h _ _ (hu.update (t := u.presentRead .program a) rfl) t ht

theorem KeepsOut.writeProg {a v : Word} {f : State → Out} (hu : Keeps k s u)
    (h : ∀ w, Keeps k s w → KeepsOut k s (f w)) : KeepsOut k s (writeProg u a v f) := by
  intro t ht
  rcases writeProg_eq_next.1 ht with ⟨-, ht⟩ | ⟨-, ht⟩
  · exact h _ (hu.storeProg a v) t ht
  · exact h _ (hu.update (t := u.presentWrite .program a v) rfl) t ht

theorem KeepsOut.readReg {r : Reg} {f : Word → State → Out} (hu : Keeps k s u)
    (h : ∀ v w, Keeps k s w → KeepsOut k s (f v w)) : KeepsOut k s (readReg u r f) := by
  intro t ht
  obtain ⟨-, -, ht⟩ := readReg_eq_next.1 ht
  exact h _ _ (hu.trans (AfterRead.ofReg u r).keeps) t ht

theorem KeepsOut.readPart {i : AB} {high : Bool} {f : Word → State → Out} (hu : Keeps k s u)
    (h : ∀ v w, Keeps k s w → KeepsOut k s (f v w)) : KeepsOut k s (readPart u i high f) :=
  h _ _ (hu.update rfl)

theorem KeepsOut.readMovSource {r : Reg} {f : Word → State → Out} (hu : Keeps k s u)
    (h : ∀ v w, Keeps k s w → KeepsOut k s (f v w)) : KeepsOut k s (readMovSource u r f) := by
  intro t ht
  rcases readMovSource_eq_next.1 ht with ⟨i, high, -, ht⟩ | ⟨-, ht⟩
  · exact KeepsOut.readPart hu h t ht
  · exact KeepsOut.readReg hu h t ht

theorem KeepsOut.writeMovDest {r : Reg} {v : Word} (hu : Keeps k s u) : KeepsOut k s (writeMovDest u r v) := by
  intro t ht
  obtain ⟨-, rfl⟩ := writeMovDest_eq_next.1 ht
  exact hu.movReg r v

theorem KeepsOut.push {v : Word} {f : State → Out} (hu : Keeps k s u)
    (h : ∀ w, Keeps k s w → KeepsOut k s (f w)) : KeepsOut k s (push u v f) :=
  .writeData hu fun _ hw => h _ (hw.update rfl)

theorem KeepsOut.pop {f : Word → State → Out} (hu : Keeps k s u)
    (h : ∀ v w, Keeps k s w → KeepsOut k s (f v w)) : KeepsOut k s (pop u f) :=
  .readData hu fun _ _ hw => h _ _ (hw.update rfl)

theorem KeepsOut.readSrc {x : Src} {f : Word → State → Out} (h : ∀ v w, Keeps k s w → KeepsOut k s (f v w)) :
    KeepsOut k s (readSrc x s f) := by
  intro t ht
  obtain ⟨v, w, hw, ht⟩ := readSrc_next ht
  exact h v w hw.keeps t ht

theorem KeepsOut.readAlu {x : AluSrc} {e : Ext} {f : Acc → State → Out}
    (h : ∀ v w, Keeps k s w → KeepsOut k s (f v w)) : KeepsOut k s (readAlu x e s f) := by
  intro t ht
  obtain ⟨v, w, hw, ht⟩ := readAlu_next ht
  exact h v w hw.keeps t ht

theorem KeepsOut.readMul {x : MulSrc} {f : Word → Word → State → Out}
    (h : ∀ y v w, Keeps k s w → KeepsOut k s (f y v w)) : KeepsOut k s (readMul x s f) := by
  intro t ht
  obtain ⟨y, v, w, hw, ht⟩ := readMul_next ht
  exact h y v w hw.keeps t ht

theorem KeepsOut.readExp {x : ExpSrc} {f : Acc → State → Out} (h : ∀ v w, Keeps k s w → KeepsOut k s (f v w)) :
    KeepsOut k s (readExp x s f) := by
  intro t ht
  obtain ⟨v, w, hw, ht⟩ := readExp_next ht
  exact h v w hw.keeps t ht

theorem KeepsOut.modifySrc {x : Src} {f : Word → Flags → Word × Flags} : KeepsOut k s (modifySrc x s f) := by
  refine .readSrc fun v w hw => ?_
  have hflags : Keeps k s { w with flags := (f v w.flags).2 } := hw.update rfl
  cases x with
  | direct a | ind n m => exact .writeData hflags fun _ hv => .next hv
  | reg r => exact .next (hflags.setRegPart r _)

/-! ### The meanings -/

theorem KeepsOut.shiftBySv {x : Acc} {i : AB} (hu : Keeps k s u) : KeepsOut k s (shiftBySv x i u) :=
  .ite (fun _ => .next (hu.update rfl)) fun _ => .next (hu.update rfl)

theorem KeepsOut.extremum {d : AX} {x : Acc} {take : Bool} {m : PostMod} (hu : Keeps k s u) :
    KeepsOut k s (extremum d x take m u) := by
  cases take <;> exact .next (hu.update (by simp [State.guarded]))

theorem KeepsOut.testMask {q : TestKind} {d : AX} {x : Src} : KeepsOut k s (testMask q d x s) :=
  .readSrc fun _ _ hw => .next (hw.update rfl)

theorem KeepsOut.testLong {q : TestKind} {x : Src} {v : Word} : KeepsOut k s (testLong q x v s) :=
  .readSrc fun _ _ hw => .next (hw.update rfl)

theorem KeepsOut.testBit {b : BitVec 4} {x : Src} : KeepsOut k s (testBit b x s) :=
  .readSrc fun _ _ hw => .next (hw.update rfl)

theorem KeepsOut.compareLong {x : Src} {v : Word} : KeepsOut k s (compareLong x v s) :=
  .readSrc fun _ _ hw => .next (hw.update rfl)

theorem KeepsOut.squareOnly {x : Src} : KeepsOut k s (squareOnly x s) :=
  .readSrc fun _ _ hw => .next (hw.update rfl)

theorem KeepsOut.squareAcc {d : AX} {x : Src} : KeepsOut k s (squareAcc d x s) :=
  .readSrc fun _ _ hw => .next (hw.update rfl)

theorem KeepsOut.movRound {d : AB} {x : Src} : KeepsOut k s (movRound d x s) :=
  .readSrc fun _ _ hw => .next (hw.update rfl)

theorem KeepsOut.movShift {d : AB} {x : Src} : KeepsOut k s (movShift x d s) :=
  .readSrc fun _ _ hw => .shiftBySv hw

theorem KeepsOut.aluOp {op : AluOp} {d : AX} {x : AluSrc} : KeepsOut k s (aluOp op d x s) :=
  .readAlu fun _ _ hw => .next (hw.update rfl)

theorem KeepsOut.mulOnly {ym xm : Sign} {x : MulSrc} : KeepsOut k s (mulOnly ym xm x s) :=
  .readMul fun _ _ _ hw => .next (hw.update rfl)

theorem KeepsOut.mulAcc {mode : AccMode} {ym xm : Sign} {d : AX} {x : MulSrc} : KeepsOut k s (mulAcc mode ym xm d x s) :=
  .readMul fun _ _ _ hw => .next (hw.update rfl)

theorem KeepsOut.exponent {x : ExpSrc} {d : Option AX} : KeepsOut k s (exponent x d s) :=
  .readExp fun _ _ hw => .next (hw.update rfl)

theorem KeepsOut.bitField {op : BitOp} {x : Src} {v : Word} : KeepsOut k s (bitField op x v s) := .modifySrc

theorem KeepsOut.arithLong {op : AddSub} {x : Src} {v : Word} : KeepsOut k s (arithLong op x v s) := .modifySrc

theorem KeepsOut.maxData {c : MaxCond} {d : AX} {m : PostMod} : KeepsOut k s (maxData c d m s) :=
  .readData .refl fun _ _ hw => .extremum hw

theorem KeepsOut.divStep {d : AX} {a : BitVec 8} : KeepsOut k s (divStep d a s) :=
  .readData .refl fun _ _ hw => .next (hw.update rfl)

theorem KeepsOut.normStep {d : AX} {n : RN} {m : PostMod} : KeepsOut k s (normStep d n m s) :=
  .ite (fun _ => .next .refl) fun _ => .next (Keeps.refl.update (by simp [State.guarded]))

theorem KeepsOut.modifyPointer {dmod : Bool} {n : RN} {m : PostMod} : KeepsOut k s (modifyPointer dmod n m s) :=
  .next ((Keeps.refl.setPtr n _).update rfl)

theorem KeepsOut.movToReg {v : Word} {r : Reg} : KeepsOut k s (movToReg v r s) := .writeMovDest .refl

theorem KeepsOut.callTo {c : Cond} {a : Word} : KeepsOut k s (callTo c a s) :=
  .ite (fun _ => .push .refl fun _ hw => .next (hw.update rfl)) fun _ =>
    .ite (fun _ => .writeData .refl fun _ hw => .next hw) fun _ => .next .refl

theorem KeepsOut.returnIf {c : Cond} : KeepsOut .branch s (returnIf c s) :=
  .ite (fun _ => .pop .refl fun v _ hw => .next (hw.returnTo v)) fun _ => .next .refl

theorem KeepsOut.returnInterrupt {c : Cond} {context : Bool} : KeepsOut .branch s (returnInterrupt c context s) := by
  refine .ite (fun _ => .pop .refl fun v w hw => .next ?_) fun _ => .next .refl
  have hret := hw.returnTo v
  cases context
  · exact hret.update rfl
  · exact hret.update rfl

theorem KeepsOut.delayReturn {fromTrap : Bool} (hu : Keeps .delayedReturn s u) :
    KeepsOut .delayedReturn s (delayReturn fromTrap u) :=
  .pop hu fun v _ hw => .next
    (hw.trans ⟨fun h => h.congr rfl rfl rfl, .inr ⟨rfl, ⟨v, 2, fromTrap⟩, rfl, rfl⟩, .inl rfl⟩)

theorem KeepsOut.takeTrap : KeepsOut k s (takeTrap s) :=
  .ite (fun _ => .refused _) fun _ => .push .refl fun _ hw => .next (hw.update rfl)

theorem KeepsOut.repeatCount {n : Word} (hu : Keeps .rep s u) : KeepsOut .rep s (repeatCount n u) :=
  .next (hu.trans ⟨fun h => h.congr rfl rfl rfl, .inl rfl, .inr (.inl rfl)⟩)

theorem Loops.setLevel_repActive (l : Loops) (n : Nat) (b : BlockLevel) : (l.setLevel n b).repActive = l.repActive := by
  unfold Loops.setLevel; split <;> rfl

theorem KeepsOut.blockRepeat {n last : Word} (hu : Keeps k s u) : KeepsOut k s (blockRepeat n last u) :=
  .ite (fun _ => .refused _) fun hbc => .ite (fun _ => .refused _) fun _ => .ite (fun _ => .refused _) fun _ =>
    .next (hu.levels (fun _ => levels_push _ (Nat.lt_of_not_le hbc)) (Loops.setLevel_repActive ..))

theorem KeepsOut.returnAdjust {v : BitVec 8} : KeepsOut .branch s (returnAdjust v s) :=
  .pop .refl fun a _ hw => .next ((hw.returnTo a).update rfl)

theorem KeepsOut.repeatReg {r : Reg} : KeepsOut .rep s (repeatReg r s) := .readReg .refl fun _ _ hw => .repeatCount hw

theorem KeepsOut.blockRepeatReg {r : Reg} {last : Word} : KeepsOut k s (blockRepeatReg r last s) :=
  .ite (fun _ => .refused _) fun _ => .readReg .refl fun _ _ hw => .blockRepeat hw

theorem KeepsOut.breakBlock : KeepsOut k s (breakBlock s) :=
  .ite (fun _ => .refused _) fun hbc => .next (Keeps.refl.popLevel hbc)

theorem KeepsOut.readWord {w : WordSrc} {f : Word → State → Out} (h : ∀ v u, Keeps k s u → KeepsOut k s (f v u)) :
    KeepsOut k s (readWord w s f) := by
  cases w with
  | reg r => exact .readMovSource .refl h
  | part i high => exact .readPart .refl h
  | ind n m => exact .readData .refl fun v _ hu => h v _ (hu.bump n m)
  | data x =>
    cases x with
    | direct | idx7 | idx16 | dirLong => exact .readData .refl h
    | ind | reg | short | long => exact h _ _ .refl
  | top => exact .readData .refl h
  | pop => exact .pop .refl h
  | prog d => exact .readProg .refl h
  | imm | mixp | x | repc | dvm => exact h _ _ .refl

theorem KeepsOut.readAccValue {v : AccValue} {d : AB} {f : Acc → State → Out}
    (h : ∀ x u, Keeps k s u → KeepsOut k s (f x u)) : KeepsOut k s (readAccValue v d s f) := by
  cases v with
  | full | low | high | highKeep => exact .readWord fun _ u hu => h _ u hu
  | acc | product => exact h _ _ .refl

theorem KeepsOut.storeWord {g : Target} {v : Word} (hu : Keeps k s u) : KeepsOut k s (storeWord g u v) := by
  cases g with
  | ind n m => exact .writeData hu fun _ hw => .next (hw.bump n m)
  | push => exact .push hu fun _ hw => .next hw
  | direct | long | idx7 | idx16 => exact .writeData hu fun _ hw => .next hw

theorem KeepsOut.of_accDestView {i : Instr} {v : AccValue} {d : AB} (h : accDestView i = some (v, d)) :
    KeepsOut k s (exec i s) := by
  rw [exec_of_accDestView h]
  exact .readAccValue fun _ _ hu => .next (hu.update rfl)

theorem KeepsOut.of_memDestView {i : Instr} {w : WordSrc} {g : Target} (h : memDestView i = some (w, g)) :
    KeepsOut k s (exec i s) := by
  rw [exec_of_memDestView h]
  exact .readWord fun _ _ hu => .storeWord hu

theorem KeepsOut.of_specialView {i : Instr} {w : WordSrc} {q : Special} (h : specialView i = some (w, q)) :
    KeepsOut k s (exec i s) := by
  rw [exec_of_specialView h]
  refine .readWord fun v u hu => .next ?_
  cases q with
  | icr =>
    rw [specialWritten, ← Icr.write_eq_icrWritten]
    exact hu.levels (Icr.levelsOk_write · v) rfl
  | mixp | sv | x | dvm => exact hu.update rfl

theorem KeepsOut.movIndToReg {n : RN} {m : PostMod} {r : Reg} : KeepsOut k s (movIndToReg n m r s) :=
  .readData .refl fun _ _ hw => .writeMovDest (hw.bump n m)

theorem KeepsOut.movTopToReg {r : Reg} : KeepsOut k s (movTopToReg r s) := .readData .refl fun _ _ hw => .writeMovDest hw

theorem KeepsOut.movDirectToReg {a : BitVec 8} {r : Reg} : KeepsOut k s (movDirectToReg a r s) :=
  .readData .refl fun _ _ hw => .writeMovDest hw

theorem KeepsOut.movProgToReg {d : AX} {r : Reg} : KeepsOut k s (movProgToReg d r s) :=
  .readProg .refl fun _ _ hw => .writeMovDest hw

theorem KeepsOut.popToReg {r : Reg} : KeepsOut k s (popToReg r s) := .pop .refl fun _ _ hw => .writeMovDest hw

theorem KeepsOut.movRegToReg {r d : Reg} : KeepsOut k s (movRegToReg r d s) :=
  .ite (fun _ => .ite (fun _ => .next (Keeps.refl.update rfl)) fun _ =>
      .ite (fun _ => .next (Keeps.refl.update rfl)) fun _ => .refused _) fun _ =>
    .readMovSource .refl fun _ _ hw => .writeMovDest hw

theorem KeepsOut.movProgToData {n : RN} {m im : PostMod} {i : RI} : KeepsOut k s (movProgToData n m i im s) :=
  .readProg .refl fun _ _ hw => .writeData hw fun _ hv =>
    .ite (fun _ => .next ((hv.setPtr n _).update rfl)) fun _ => .next ((hv.bump n m).bump i.rn im)

theorem KeepsOut.movDataToProg {i : RI} {im jm : PostMod} {j : RJ} : KeepsOut k s (movDataToProg i im j jm s) :=
  .ite (fun _ => .refused _) fun _ => .readData .refl fun _ _ hw => .writeProg hw fun _ hv =>
    .next ((hv.bump i.rn im).bump j.rn jm)

/-- Every instruction, by its meaning. Where several forms share a meaning that matches on its operand, `exec` is unfolded
first, so that what is left is the meaning itself and not its operand's case. -/
theorem exec_keeps (i : Instr) (s : State) : KeepsOut (Instr.traits i).kind s (exec i s) := by
  cases i with
  -- accumulators, pointers and status alone
  | swap | banke | mpyi | shfi | movsi | movIcrAcc | limA0 | limA0A1 | limA1A0 | limA1 | loadPage | loadModi | loadModj
  | loadStepi | loadStepj | loadPs | cntxS | cntxR | nop | eint | dint => exact .next (Keeps.refl.update rfl)
  | shrA | shr4A | shlA | shl4A | rorA | rolA | clrA | notA | negA | rndA | pacrA | clrrA | incA | decA | copyA | shrB
  | shr4B | shlB | shl4B | rorB | rolB | clrB => exact .ite (fun _ => .next (Keeps.refl.update rfl)) fun _ => .next .refl
  | shfc => exact .ite (fun _ => .shiftBySv .refl) fun _ => .next .refl
  | norm => exact .normStep
  | modr => exact .modifyPointer
  | max | min => exact .extremum .refl
  | maxd => exact .maxData
  | divs => exact .divStep
  -- an operand read, registers written
  | tst0Direct | tst0Ind | tst0Reg | tst1Direct | tst1Ind | tst1Reg => unfold exec; exact .testMask
  | tst0LongInd | tst0LongReg | tst0LongDirect | tst1LongInd | tst1LongReg | tst1LongDirect =>
    unfold exec; exact .testLong
  | tstbInd | tstbReg | tstbDirect => unfold exec; exact .testBit
  | cmpvInd | cmpvReg | cmpvDirect => unfold exec; exact .compareLong
  | sqrDirect | sqrInd | sqrReg => unfold exec; exact .squareOnly
  | sqraDirect | sqraInd | sqraReg => unfold exec; exact .squareAcc
  | mpyYInd | mpyYReg | mpyDual | mpyLong | mpysuYInd | mpysuYReg | mpysuDual | mpysuLong | mpyYDirect =>
    unfold exec; exact .mulOnly
  | msuYDirect | msuYInd | msuYReg | macYInd | macYReg | macDual | macLong | macusYInd | macusYReg | macusDual | macusLong
  | maaYInd | maaYReg | maaDual | maaLong | macuuYInd | macuuYReg | macuuDual | macuuLong | macsuYInd | macsuYReg
  | macsuDual | macsuLong | maasuYInd | maasuYReg | maasuDual | maasuLong | macYDirect | maaYDirect | macsuYDirect
  | msuLong | msuDual => unfold exec; exact .mulAcc
  | movrIndPart | movrReg | movrInd => unfold exec; exact .movRound
  | movsReg | movsInd | movsDirect => unfold exec; exact .movShift
  | expIndA | expRegA | expIndSv | expRegSv | expB0A0 | expB1A0 | expB0A1 | expB1A1 | expB0Sv | expB1Sv =>
    unfold exec; exact .exponent
  -- an operand read, changed and written back
  | setInd | setReg | setDirect | rstInd | rstReg | rstDirect | chngInd | chngReg | chngDirect =>
    unfold exec; exact .bitField
  | addvInd | addvReg | addvDirect | subvInd | subvReg | subvDirect => unfold exec; exact .arithLong
  -- moves
  | movAccAcc | movRegB | movXAcc | movIndB | movDirectAcc | movDirectHighEu | movDirLongA | movLongB | movShortLow
  | movShortHigh | movIdx7A | movIdx16A | movRepcB0 | movRepcB1 | movRepcA0 | movRepcA1 | movDvmB0 | movDvmB1 | movDvmA0
  | movDvmA1 => exact .of_accDestView rfl
  | movDirectPart q => cases q <;> exact .of_accDestView rfl
  | movRegInd | movRnDirect | movSvDirect | movLowDirLong | movLowIdx7 | movLowIdx16 | pushReg | pushLong =>
    exact .of_memDestView rfl
  | movPartDirect q => cases q <;> exact .of_memDestView rfl
  | movRegMixp | movDirectSv | movRegIcr | movImmIcr | movB0lX | movB1lX | movA0lX | movA1lX | movB0lDvm | movB1lDvm
  | movA0lDvm | movA1lDvm => exact .of_specialView rfl
  | movMixpReg | movLongReg | movShortRn | movShortExt | movShortSv => unfold exec; exact .movToReg
  | movRegReg => exact .movRegToReg
  | movIndReg => exact .movIndToReg
  | movSpReg => exact .movTopToReg
  | movDirectRn => exact .movDirectToReg
  | movpLowReg => exact .movProgToReg
  | popReg => exact .popToReg
  | movpIndInd => exact .movProgToData
  | movd => exact .movDataToProg
  -- loops
  | repReg => exact .repeatReg
  | repShort => exact .repeatCount .refl
  | bkrepShort => exact .blockRepeat .refl
  | bkrepReg => exact .blockRepeatReg
  | breakLoop => exact .breakBlock
  -- branches, calls, returns, `trap`
  | br | brr => exact .ite (fun _ => .next (Keeps.refl.update rfl)) fun _ => .next .refl
  | call | callr => exact .callTo
  | callaA0 | callaA1 => unfold exec; exact .callTo
  | ret => exact .returnIf
  | reti => exact .returnInterrupt
  | rets => exact .returnAdjust
  | retd => exact .delayReturn .refl
  | retid => exact .delayReturn (Keeps.refl.update rfl)
  | trap => exact .takeTrap
  -- the ALU family
  | _ => unfold exec; exact .aluOp

end Invariant

section Boundary

/-! ### What follows an instruction keeps the invariant (R402, R406, R442, R523) -/

variable {s t : State} {tr : Traits} {k : Source} {i : Instr} {d : DelayedReturn} {a : Word} {n : Nat}

theorem State.slotOk_of_none (h : s.svc.dret = none) : s.slotOk = true := by
  rw [State.slotOk, h]

theorem State.slotOk_some_iff (h : s.svc.dret = some d) :
    s.slotOk = true ↔ (d.left = 1 ∨ d.left = 2) ∧ s.loops.repActive = false := by
  simp [State.slotOk, h]

/-- What the check of the forbidden sequences lets pass is repeatable while a repeat is active (R402). -/
theorem repeatable_of_hazard_none (h : hazard tr a s = none) (hrep : s.loops.repActive = true) :
    tr.notRepeatable = false := by
  unfold hazard at h
  split_ifs at h
  simp_all

/-- What it lets pass in a delay slot fits there (R442). -/
theorem fitsSlot_of_hazard_none (h : hazard tr a s = none) (hd : s.svc.dret = some d) :
    tr.notInSlot d.left (tr.cyclesIn s) = false := by
  unfold hazard at h
  split_ifs at h
  simp_all

theorem State.endPass_repActive (s : State) (a : Word) : (s.endPass a).loops.repActive = s.loops.repActive := by
  unfold State.endPass; split_ifs <;> rfl

theorem State.endPass_lawful (h : s.Lawful) (a : Word) : (s.endPass a).Lawful := by
  unfold State.endPass
  split_ifs with hend
  · obtain ⟨-, hbc, -⟩ := hend
    exact (Keeps.refl.popLevel (k := .plain) hbc).1 h
  · exact h.congr rfl rfl rfl
  · exact h

theorem State.control_lawful (h : t.Lawful) (s : State) (tr : Traits) (a : Word) : (t.control s tr a).Lawful := by
  unfold State.control
  split
  · exact h.congr (by simp) (by simp) (by simp)
  · split_ifs
    · exact h.congr (by simp) (by simp) (by simp)
    · exact State.endPass_lawful h _

theorem State.control_of_dret_none (h : s.svc.dret = none) :
    t.control s tr a = if s.loops.repActive then t.endRepetition a else t.endPass (a + BitVec.ofNat 16 tr.words) := by
  rw [State.control, h]

theorem State.control_repetition (hd : s.svc.dret = none) (hrep : s.loops.repActive = true) :
    t.control s tr a = t.endRepetition a := by
  rw [State.control_of_dret_none hd, if_pos hrep]

theorem State.control_pass (hd : s.svc.dret = none) (hrep : s.loops.repActive = false) :
    t.control s tr a = t.endPass (a + BitVec.ofNat 16 tr.words) := by
  rw [State.control_of_dret_none hd, hrep, if_neg (by decide)]

/-- In a delay slot: the slot is full and no return waits any more, or it still waits, with a cycle less and no repeat. -/
theorem State.endSlot_slotOk (hleft : d.left = 1 ∨ d.left = 2) (hrep : t.loops.repActive = false) (c : Nat) :
    (t.endSlot d c).slotOk = true := by
  unfold State.endSlot
  split_ifs
  · exact State.slotOk_of_none rfl
  · refine (State.slotOk_some_iff rfl).2 ⟨?_, hrep⟩
    change d.left - c = 1 ∨ d.left - c = 2
    omega

theorem State.control_slotOk_of_waiting (hd : s.svc.dret = some d) (hslot : s.slotOk = true)
    (hhaz : hazard tr a (s.begin n) = none) (hk : Keeps tr.kind (s.begin n) t) : (t.control s tr a).slotOk = true := by
  obtain ⟨hleft, hrep⟩ := (State.slotOk_some_iff hd).1 hslot
  have hfits := fitsSlot_of_hazard_none hhaz hd
  obtain ⟨-, -, hrepActive⟩ := hk
  have hsame : t.loops.repActive = s.loops.repActive := by
    rcases hrepActive with hsame | hkind | hkind
    · exact hsame
    · simp [Traits.notInSlot, hkind] at hfits
    · simp [Traits.notInSlot, Traits.isFlow, hkind] at hfits
  have hcontrol : t.control s tr a = t.endSlot d (tr.cyclesIn s) := by rw [State.control, hd]
  rw [hcontrol]
  exact State.endSlot_slotOk hleft (hsame.trans hrep) _

theorem State.control_slotOk_of_none (hd : s.svc.dret = none) (hhaz : hazard tr a (s.begin n) = none)
    (hk : Keeps tr.kind (s.begin n) t) : (t.control s tr a).slotOk = true := by
  obtain ⟨-, hdret, hrepActive⟩ := hk
  rcases hdret with hsame | ⟨hkind, d, hnew, hleft⟩
  · apply State.slotOk_of_none
    rw [State.control_of_dret_none hd]
    split_ifs <;> simpa using hsame.trans hd
  · have hrep : s.loops.repActive = false := by
      by_contra hactive
      have hrepeatable := repeatable_of_hazard_none hhaz (by simpa using hactive)
      simp [Traits.notRepeatable, Traits.isFlow, hkind] at hrepeatable
    have hsame : t.loops.repActive = false := by simpa [hkind, hrep] using hrepActive
    rw [State.control_pass hd hrep]
    refine (State.slotOk_some_iff (by simpa using hnew)).2 ⟨.inr hleft, ?_⟩
    rw [State.endPass_repActive, hsame]

theorem State.control_slotOk (hslot : s.slotOk = true) (hhaz : hazard tr a (s.begin n) = none)
    (hk : Keeps tr.kind (s.begin n) t) : (t.control s tr a).slotOk = true := by
  cases hd : s.svc.dret with
  | some d => exact State.control_slotOk_of_waiting hd hslot hhaz hk
  | none => exact State.control_slotOk_of_none hd hhaz hk

/-! ### The hold counters (R522, R523) -/

theorem Holds.small_iff {h : Holds} :
    h.small = true ↔ h.int0 ≤ 2 ∧ h.int1 ≤ 2 ∧ h.int2 ≤ 2 ∧ h.nmi ≤ 2 ∧ h.bi ≤ 2 := by
  simp [Holds.small, and_assoc]

theorem Holds.small_less {h : Holds} (hs : h.small = true) (c : Nat) : (h.less c).small = true := by
  rw [Holds.small_iff] at hs ⊢
  simp only [Holds.less]
  omega

theorem Holds.small_max {g h : Holds} (hg : g.small = true) (hh : h.small = true) : (g.max h).small = true := by
  obtain ⟨g0, g1, g2, gn, gb⟩ := Holds.small_iff.1 hg
  obtain ⟨h0, h1, h2, hn, hb⟩ := Holds.small_iff.1 hh
  exact Holds.small_iff.2 ⟨Nat.max_le.2 ⟨g0, h0⟩, Nat.max_le.2 ⟨g1, h1⟩, Nat.max_le.2 ⟨g2, h2⟩,
    Nat.max_le.2 ⟨gn, hn⟩, Nat.max_le.2 ⟨gb, hb⟩⟩

theorem Holds.small_ite {g h : Holds} (c : Prop) [Decidable c] (hg : g.small = true) (hh : h.small = true) :
    (if c then g else h).small = true := by
  split_ifs
  · exact hg
  · exact hh

/-- No row of the table of delays holds a source longer than two cycles. -/
theorem Traits.small_delay (tr : Traits) (s : State) (lastRep first : Bool) :
    (tr.delay s lastRep first).small = true := by
  unfold Traits.delay
  refine Holds.small_max (Holds.small_max (Holds.small_max ?_ ?_) (Holds.small_max ?_ ?_))
    (Holds.small_max (Holds.small_max ?_ ?_) (Holds.small_max (Holds.small_max ?_ ?_) ?_))
  all_goals exact Holds.small_ite _ rfl rfl

/-! ### The step -/

theorem State.finish_inv (hs : s.Inv) (hhaz : hazard tr s.pc (s.begin n) = none) (hk : Keeps tr.kind (s.begin n) t) :
    (t.finish s tr).Inv := by
  obtain ⟨hlawful, hslot, hhold⟩ := State.inv_iff.1 hs
  have ht : t.Lawful := hk.1 (hlawful.congr rfl rfl rfl)
  refine State.inv_iff.2 ⟨(State.control_lawful ht s tr s.pc).congr rfl rfl rfl, ?_, ?_⟩
  · exact State.control_slotOk hslot hhaz hk
  · exact Holds.small_max (Holds.small_less hhold _) (Traits.small_delay ..)

theorem runInstr_inv (hs : s.Inv) (h : runInstr i s = .next t) : t.Inv := by
  obtain ⟨hhaz, u, hexec, rfl⟩ := runInstr_eq_next.1 h
  exact State.finish_inv hs hhaz (exec_keeps i _ u hexec)

theorem State.resetEvent_inv (hs : s.Inv) : s.resetEvent.Inv := by
  obtain ⟨⟨hdmem, hpmem, -⟩, -, -⟩ := State.inv_iff.1 hs
  exact State.inv_iff.2 ⟨⟨hdmem, hpmem, rfl⟩, rfl, rfl⟩

theorem State.isOpen_of_accepted (h : s.accepted = some k) : s.isOpen k = true := by
  unfold State.accepted at h
  split_ifs at h
  all_goals
    cases h
    simp_all

/-- No request is accepted while a delayed return waits (R520 g). -/
theorem State.dret_of_accepted (h : s.accepted = some k) : s.svc.dret = none := by
  have hopen := State.isOpen_of_accepted h
  simp only [State.isOpen, Bool.and_eq_true, Option.isNone_iff_eq_none] at hopen
  obtain ⟨⟨⟨-, hdret⟩, -⟩, -⟩ := hopen
  exact hdret

theorem enter_inv (hs : s.Inv) (hd : s.svc.dret = none) (h : enter k s = .next t) : t.Inv := by
  obtain ⟨hlawful, -, hhold⟩ := State.inv_iff.1 hs
  obtain ⟨hdmem, hpmem, -, hicr, hdret, hsvc, -⟩ := enter_next h
  refine State.inv_iff.2 ⟨?_, State.slotOk_of_none (hdret.trans hd), hsvc ▸ hhold⟩
  rcases hdmem with ⟨-, hdmem⟩ | ⟨-, hdmem⟩
  · exact ((Keeps.refl (k := .plain).store _ _).1 hlawful).congr hdmem hpmem hicr
  · exact hlawful.congr hdmem hpmem hicr

end Boundary

section Loops

/-! ### `rep`, `bkrep`, `break` and the ends of the loops (R400 to R410) -/

variable {s t : State} {tr : Traits} {i : Instr} {c : Count} {last a n : Word}

/-- The model's reading of the count of a `rep` or a `bkrep`. -/
def readCount (c : Count) (s : State) (k : Word → State → Out) : Out :=
  match c with
  | .imm v => k (v.setWidth 16) s
  | .reg r => readReg s r k

theorem readCount_of_ready (h : countReady c s = true) (k : Word → State → Out) :
    readCount c s k = k (countValue c s) (countRest c s) := by
  cases c with
  | imm v => rfl
  | reg r =>
    obtain ⟨h16, hhas⟩ := regReady_iff.1 h
    exact readReg_of_ready h16 hhas k

@[simp] theorem countRest_icr (c : Count) (s : State) : (countRest c s).icr = s.icr := by cases c <;> simp [countRest]
@[simp] theorem countRest_loops (c : Count) (s : State) : (countRest c s).loops = s.loops := by
  cases c <;> simp [countRest]
@[simp] theorem countRest_pc (c : Count) (s : State) : (countRest c s).pc = s.pc := by cases c <;> simp [countRest]

theorem exec_of_repView (h : repView i = some c) : exec i s = readCount c s repeatCount := by
  unfold repView at h
  split at h <;> cases h <;> rfl

/-- `bkrep` on a count that is not lc inside a loop. -/
theorem exec_of_bkrepView (h : bkrepView i = some (c, last)) (hlc : ¬ (c = .reg .lc ∧ s.icr.bc ≠ 0)) :
    exec i s = readCount c s fun v t => blockRepeat v last t := by
  unfold bkrepView at h
  split at h <;> cases h
  · rfl
  · exact if_neg (by simpa using hlc)

theorem exec_of_bkrepView_lc (h : bkrepView i = some (.reg .lc, last)) (hbc : s.icr.bc ≠ 0) :
    exec i s = .refused (.excludedOperand (Memory.word s.pmem (s.pc - 2)) (s.pc - 2)) := by
  unfold bkrepView at h
  split at h <;> cases h
  exact if_pos ⟨rfl, hbc⟩

theorem State.lastInUse_iff :
    s.lastInUse a = true ↔ ∃ k, 1 ≤ k ∧ k ≤ s.icr.bc.toNat ∧ (s.loops.level k).last = a := by
  simp only [State.lastInUse, List.any_eq_true, List.mem_range, beq_iff_eq]
  constructor
  · rintro ⟨k, hk, hlast⟩
    exact ⟨k + 1, by omega, hk, hlast⟩
  · rintro ⟨k, hk, hbc, hlast⟩
    exact ⟨k - 1, by omega, by rwa [Nat.sub_add_cancel hk]⟩

/-- The loop units after `bkrep` opens a level (R404). -/
def opened (s : State) (n last : Word) : Loops :=
  { s.loops.setLevel (s.icr.bc.toNat + 1)
      { start := s.pc, last := last
        savedLc := if s.icr.bc = 0 then (s.loops.level (s.icr.bc.toNat + 1)).savedLc else s.loops.lc } with lc := n }

theorem blockRepeat_opens (hbc : s.icr.bc.toNat < 4) (hlast : s.pc.toNat < last.toNat)
    (huse : ∀ k, 1 ≤ k → k ≤ s.icr.bc.toNat → (s.loops.level k).last ≠ last) :
    blockRepeat n last s =
      .next { s with icr := { s.icr with bc := s.icr.bc + 1, lp := true }, loops := opened s n last } := by
  have hlong : ¬ last ≤ s.pc := Nat.not_le_of_lt hlast
  have hfree : ¬ s.lastInUse last = true := by
    rw [State.lastInUse_iff]
    rintro ⟨k, h1, hk, heq⟩
    exact huse k h1 hk heq
  rw [blockRepeat, if_neg (Nat.not_le_of_lt hbc), if_neg hlong, if_neg hfree]
  rfl

theorem blockRepeat_tooDeep (hbc : 4 ≤ s.icr.bc.toNat) : blockRepeat n last s = .refused .loopTooDeep := if_pos hbc

theorem blockRepeat_tooShort (hbc : s.icr.bc.toNat < 4) (hlast : last.toNat ≤ s.pc.toNat) :
    blockRepeat n last s = .refused .loopTooShort :=
  (if_neg (Nat.not_le_of_lt hbc)).trans (if_pos hlast)

theorem blockRepeat_sameLast (hbc : s.icr.bc.toNat < 4) (hlast : s.pc.toNat < last.toNat)
    (huse : ∃ k, 1 ≤ k ∧ k ≤ s.icr.bc.toNat ∧ (s.loops.level k).last = last) :
    blockRepeat n last s = .refused .loopSameLast := by
  have hlong : ¬ last ≤ s.pc := Nat.not_le_of_lt hlast
  rw [blockRepeat, if_neg (Nat.not_le_of_lt hbc), if_neg hlong, if_pos (State.lastInUse_iff.2 huse)]

theorem Loops.level_lc (l : Loops) (k : Nat) : ({ l with lc := n } : Loops).level k = l.level k := by
  unfold Loops.level; split <;> rfl

theorem opened_level {k : Nat} (hbc : s.icr.bc.toNat < 4) (hk : 1 ≤ k ∧ k ≤ 4) :
    (opened s n last).level k =
      if k = s.icr.bc.toNat + 1 then
        { start := s.pc, last := last
          savedLc := if s.icr.bc = 0 then (s.loops.level (s.icr.bc.toNat + 1)).savedLc else s.loops.lc }
      else s.loops.level k := by
  rw [opened, Loops.level_lc, Loops.level_setLevel _ _ ⟨by omega, by omega⟩ hk]

/-- Beside the level and lc nothing of the loop units changes. -/
theorem opened_rest (s : State) (n last : Word) :
    (opened s n last).lc = n ∧ (opened s n last).repc = s.loops.repc ∧
      (opened s n last).repActive = s.loops.repActive ∧ (opened s n last).repSavedActive = s.loops.repSavedActive ∧
      (opened s n last).repSavedC = s.loops.repSavedC ∧ (opened s n last).repSavedAddr = s.loops.repSavedAddr := by
  unfold opened Loops.setLevel
  split <;> exact ⟨rfl, rfl, rfl, rfl, rfl, rfl⟩

/-- BC and LP of the level that is left, for every BC that counts a level. -/
theorem levels_nested : ∀ bc : BitVec 3, bc ≠ 0 →
    (2 ≤ bc.toNat ↔ bc ≠ 1) ∧ (if bc - 1 = 0 then false else true) = decide (bc ≠ 1) := by
  decide

/-- What the popping of a level leaves, in the terms of the claims (R406, R408). -/
theorem State.popLevel_eq (hbc : s.icr.bc ≠ 0) (hlp : s.icr.lp = true) :
    s.popLevel = { s with
      icr := { s.icr with bc := s.icr.bc - 1, lp := decide (s.icr.bc ≠ 1) }
      loops := { s.loops with lc := if s.icr.bc = 1 then s.loops.lc else (s.loops.level s.icr.bc.toNat).savedLc } } := by
  obtain ⟨hinner, houter⟩ := levels_nested s.icr.bc hbc
  rw [State.popLevel, hlp, houter]
  simp only [hinner, ne_eq, ite_not]

theorem State.endPass_elsewhere
    (h : s.icr.lp = false ∨ s.pc ≠ a ∨ (s.loops.level s.icr.bc.toNat).last + 1 ≠ s.pc) : s.endPass a = s := by
  refine if_neg ?_
  rintro ⟨hlp, -, hpc, hlast⟩
  rcases h with h | h | h
  · simp [h] at hlp
  · exact h hpc
  · exact h (by rw [← State.loopLast, hlast, hpc, BitVec.sub_add_cancel])

theorem State.endPass_last (hlp : s.icr.lp = true) (hbc : s.icr.bc ≠ 0) (hpc : s.pc = a)
    (hlast : (s.loops.level s.icr.bc.toNat).last + 1 = s.pc) :
    s.endPass a = if s.loops.lc = 0 then s.popLevel
      else { s with pc := (s.loops.level s.icr.bc.toNat).start, loops := { s.loops with lc := s.loops.lc - 1 } } := by
  refine if_pos ⟨hlp, hbc, hpc, ?_⟩
  rw [← hpc, ← hlast, BitVec.add_sub_cancel, State.loopLast]

theorem opened_countRest (c : Count) (s : State) (n last : Word) : opened (countRest c s) n last = opened s n last := by
  simp only [opened, countRest_icr, countRest_loops, countRest_pc]

end Loops

end Sys2Proof.Machine

/-! ### The obligations of 44_loop.md -/

namespace Sys2Proof.Proofs

open Sys2Proof Sys2Proof.Machine Sys2Proof.Claim

/-- Settles O6: every meaning keeps the lawful part of the invariant and starts no repeat and no delayed return where the
check of the forbidden sequences bars it; what follows an instruction counts the slot and the holds down. -/
theorem invariantStep : Obligations.InvariantStep := by
  unfold Obligations.InvariantStep
  intro s t hs hstep
  rcases step_next hstep with ⟨-, rfl⟩ | ⟨-, k, haccepted, henter⟩ | ⟨-, -, ⟨-, -, hboot⟩ | ⟨v, i, -, hrun⟩⟩
  · exact State.resetEvent_inv hs
  · exact enter_inv (s := { s with out := Outputs.quiet }) hs (State.dret_of_accepted haccepted) henter
  · exact runInstr_inv (s := { s with svc := { s.svc with inBoot := false } }) hs hboot
  · exact runInstr_inv hs hrun

/-- Settles O45: the count is read, then repc and rep_active are set. -/
theorem repeatInstr : Obligations.Repeat := by
  unfold Obligations.Repeat
  intro i c s hview hready
  rw [exec_of_repView hview, readCount_of_ready hready, repeatCount, countRest_loops]

/-- Settles O46: the level opened is one above the active ones, which are left alone. -/
theorem blockRepeat : Obligations.BlockRepeat := by
  unfold Obligations.BlockRepeat
  intro i c last s hview hready
  have hexec (hlc : ¬ (c = .reg .lc ∧ s.icr.bc ≠ 0)) :
      exec i s = Machine.blockRepeat (countValue c s) last (countRest c s) := by
    rw [exec_of_bkrepView hview hlc, readCount_of_ready hready]
  refine ⟨?opens, ?lc, ?tooDeep, ?tooShort, ?sameLast⟩
  case opens =>
    intro hbc hlast huse hlc
    obtain ⟨hcount, hrepc, hactive, hsavedActive, hsavedC, hsavedAddr⟩ := opened_rest s (countValue c s) last
    have hlevel := opened_level (s := s) (n := countValue c s) (last := last) (k := s.icr.bc.toNat + 1) hbc (by omega)
    rw [if_pos rfl] at hlevel
    refine ⟨_, (hexec hlc).trans (blockRepeat_opens (by simpa) (by simpa) (by simpa)), ?_⟩
    rw [countRest_icr, opened_countRest]
    dsimp only
    rw [hlevel]
    refine ⟨rfl, hcount, hrepc, hactive, hsavedActive, hsavedC, hsavedAddr, rfl, rfl, fun h => if_neg h, ?_⟩
    intro k h1 h4 hne
    rw [opened_level hbc ⟨h1, h4⟩, if_neg hne]
  case lc =>
    rintro rfl hbc
    exact exec_of_bkrepView_lc hview hbc
  case tooDeep =>
    intro hlc hbc
    rw [hexec hlc, blockRepeat_tooDeep (by simpa)]
  case tooShort =>
    intro hlc hbc hlast
    rw [hexec hlc, blockRepeat_tooShort (by simpa) (by simpa)]
  case sameLast =>
    intro hlc hbc hlast huse
    rw [hexec hlc, blockRepeat_sameLast (by simpa) (by simpa) (by simpa)]

/-- Settles O47: the three cases of what a step adds, by the repeat and the last address. -/
theorem loopEnds : Obligations.LoopEnds := by
  unfold Obligations.LoopEnds
  refine ⟨?repetition, ?last, ?elsewhere⟩
  case repetition =>
    intro s t tr hd hrep
    rw [State.control_repetition hd hrep]
    exact ⟨fun h => if_pos h, fun h => if_neg h⟩
  case last =>
    intro s t tr hd hrep hlp hbc hpc hlast
    rw [State.control_pass hd hrep, State.endPass_last hlp hbc hpc hlast]
    refine ⟨fun hlc => if_neg hlc, fun hlc => ?_⟩
    rw [if_pos hlc, State.popLevel_eq hbc hlp, hlc]
  case elsewhere =>
    intro s t tr hd hrep h
    rw [State.control_pass hd hrep, State.endPass_elsewhere h]

/-- Settles O48: `break` is the popping of the innermost level. -/
theorem breakInstr : Obligations.Break := by
  unfold Obligations.Break
  constructor
  · intro s hbc hlp
    exact (if_neg hbc).trans (congrArg _ (State.popLevel_eq hbc hlp))
  · exact fun s hbc => if_pos hbc

end Sys2Proof.Proofs

namespace Sys2Proof.Machine

open Sys2Proof.Claim

section Jumps

/-! ### The jumps of branches and calls (R421 to R425) -/

variable {i : Instr} {c : Cond} {g : Goal} {s : State} {a : Word}

/-- The signed offset is added modulo 2^16 (R422, D3). -/
theorem State.relative_eq_ofInt (s : State) (o : BitVec 7) :
    s.relative o = BitVec.ofInt 16 (s.pc.toNat + o.toInt) := by
  rw [State.relative, BitVec.ofInt_add, BitVec.ofInt_natCast, BitVec.ofNat_toNat, BitVec.setWidth_eq]
  rfl

theorem exec_of_branchView (h : branchView i = some (c, g)) : exec i s = branch c (goal g s) s := by
  unfold branchView at h
  split at h <;> cases h
  case h_1 v => rfl
  case h_2 o => exact congrArg (branch c · s) (s.relative_eq_ofInt o)

theorem exec_of_callView (h : callView i = some (c, g)) : exec i s = callTo c (goal g s) s := by
  unfold callView at h
  split at h <;> cases h
  case h_1 v => rfl
  case h_2 o => exact congrArg (callTo c · s) (s.relative_eq_ofInt o)
  case h_3 | h_4 => exact congrArg (callTo .always · s) (low16_eq_setWidth _)

theorem branch_eq (c : Cond) (a : Word) (s : State) :
    branch c a s = .next (if holds c s then { s with pc := a } else s) := by
  rw [branch, holds_eq_condHolds]
  split <;> rfl

theorem callTo_of_holds (h : holds c s = true) : callTo c a s = push s s.pc fun t => .next { t with pc := a } := by
  rw [holds_eq_condHolds] at h
  exact if_pos h

theorem callTo_of_not_holds (h : holds c s = false) :
    callTo c a s =
      if s.chip.inZspace (s.dau.sp - 1) then writeData s (s.dau.sp - 1) s.pc .next else .next s := by
  rw [holds_eq_condHolds] at h
  exact if_neg (ne_true_of_eq_false h)

theorem Chip.inZspace_iff {x : Chip} :
    x.inZspace a = true ↔ x.xramconf.toNat * 1024 ≤ a.toNat ∧ a.toNat < x.yramconf.toNat * 1024 := by
  rw [Chip.inZspace, Bool.and_eq_true, decide_eq_true_iff, decide_eq_true_iff]
  rfl

end Jumps

section Returns

/-! ### The returns and the delay slot (R430 to R442) -/

variable {c : Cond} {s t : State} {tr : Traits} {d : DelayedReturn} {a : Word}

theorem State.returnTo_eq_jumpBack (s : State) (a : Word) : s.returnTo a = jumpBack s a := by
  simp only [State.returnTo, jumpBack, eq_comm (a := a)]
  split <;> rfl

theorem State.endService_eq_served (s : State) : s.endService = served s := by
  rw [State.endService, served]
  cases s.svc.inTrap <;> simp

theorem State.contextRestore_eq_restored (s : State) : s.contextRestore = restored s := rfl

theorem returnIf_of_holds (h : holds c s = true) : returnIf c s = pop s fun v t => .next (jumpBack t v) := by
  rw [holds_eq_condHolds] at h
  simp only [returnIf, h, if_true, State.returnTo_eq_jumpBack]

/-- What `reti` makes of the state its jump leaves (R432); `inTrap` is in_trap before the instruction. -/
def interruptReturned (context inTrap : Bool) (t : State) : State :=
  let u := { served t with svc := { (served t).svc with afterTrap := inTrap } }
  if context then restored u else u

theorem returnInterrupt_of_holds (h : holds c s = true) (context : Bool) :
    returnInterrupt c context s = pop s fun v t => .next (interruptReturned context s.svc.inTrap (jumpBack t v)) := by
  rw [holds_eq_condHolds] at h
  simp only [returnInterrupt, h, if_true, State.returnTo_eq_jumpBack, State.endService_eq_served,
    State.contextRestore_eq_restored, interruptReturned]

theorem returnAdjust_eq (v : BitVec 8) (s : State) :
    returnAdjust v s = pop s fun a t =>
      .next (jumpBack { t with dau := { t.dau with sp := t.dau.sp + v.setWidth 16 } } a) := by
  simp only [returnAdjust, State.returnTo_eq_jumpBack]
  rfl

theorem delayReturn_of_readable (h : s.readable s.dau.sp = true) (fromTrap : Bool) :
    delayReturn fromTrap s = .next
      { s with
        dau := { s.dau with sp := s.dau.sp + 1 }
        svc := { s.svc with dret := some { target := Memory.word s.dmem s.dau.sp, left := 2, fromTrap := fromTrap } } } :=
  pop_of_readable h _

theorem exec_retid (s : State) : exec .retid s = delayReturn s.svc.inTrap (served s) :=
  congrArg (delayReturn s.svc.inTrap) s.endService_eq_served

/-- In a delay slot nothing else follows the instruction: no end of a repetition or of a loop (R442, D35). -/
theorem State.control_slot (h : s.svc.dret = some d) : t.control s tr a = t.endSlot d (tr.cyclesIn s) := by
  rw [State.control, h]

theorem State.endSlot_full {n : Nat} (h : d.left ≤ n) :
    t.endSlot d n =
      { jumpBack t d.target with svc := { t.svc with dret := none, afterTrap := d.fromTrap } } := by
  rw [State.endSlot, if_pos h, State.returnTo_eq_jumpBack]
  rfl

theorem State.endSlot_waiting {n : Nat} (h : n < d.left) :
    t.endSlot d n = { t with svc := { t.svc with dret := some { d with left := d.left - n } } } :=
  if_neg (Nat.not_le_of_lt h)

/-- A jump may resume a repeat; lc and the block-repeat levels stay (R403). -/
theorem jumpBack_lc (t : State) (a : Word) : (jumpBack t a).loops.lc = t.loops.lc := by
  unfold jumpBack
  dsimp only
  split <;> rfl

theorem jumpBack_level (t : State) (a : Word) (k : Nat) : (jumpBack t a).loops.level k = t.loops.level k := by
  unfold jumpBack Loops.level
  dsimp only
  split <;> split <;> rfl

end Returns

end Sys2Proof.Machine

/-! ### The obligations of 45_branch.md -/

namespace Sys2Proof.Proofs

open Sys2Proof Sys2Proof.Machine Sys2Proof.Claim

/-- Settles O49: `br` and `brr` are one meaning at two kinds of target. -/
theorem branches : Obligations.Branches := by
  unfold Obligations.Branches
  intro i c g s hview
  rw [exec_of_branchView hview, branch_eq]

/-- Settles O50: the calls are one meaning, split by the condition and by where the word below the stack lies. -/
theorem calls : Obligations.Calls := by
  unfold Obligations.Calls
  intro i c g s hview
  rw [exec_of_callView hview]
  refine ⟨?taken, ?outside, ?inZspace⟩
  case taken =>
    intro hholds hwrite hwf
    exact ⟨_, (callTo_of_holds hholds).trans (push_of_writable hwrite _), stored_setWord hwf _ _, rfl⟩
  case outside =>
    intro hholds houtside
    rw [callTo_of_not_holds hholds, if_neg]
    rw [Chip.inZspace_iff]
    omega
  case inZspace =>
    intro hholds hlower hupper hwrite hwf
    rw [callTo_of_not_holds hholds, if_pos (Chip.inZspace_iff.2 ⟨hlower, hupper⟩)]
    exact ⟨_, writeData_of_writable hwrite _, stored_setWord hwf _ _, rfl⟩

/-- Settles O51: each of the three pops the target and jumps back to it. -/
theorem returns : Obligations.Returns := by
  unfold Obligations.Returns
  intro s hread
  refine ⟨?ret, ?reti, ?rets⟩
  case ret =>
    intro c hholds
    exact (returnIf_of_holds hholds).trans (pop_of_readable hread _)
  case reti =>
    intro c context hholds
    exact (returnInterrupt_of_holds hholds context).trans (pop_of_readable hread _)
  case rets =>
    intro v
    exact (returnAdjust_eq v s).trans (pop_of_readable hread _)

/-- Settles O52: the word is popped now, the jump waits; `retid` pops in the state with the service already ended. -/
theorem delayedReturns : Obligations.DelayedReturns := by
  unfold Obligations.DelayedReturns
  intro s hread
  constructor
  · exact delayReturn_of_readable hread false
  · exact (exec_retid s).trans (delayReturn_of_readable (s := served s) hread s.svc.inTrap)

/-- Settles O53: the cycles of the instruction against those the slot has left. -/
theorem delaySlot : Obligations.DelaySlot := by
  unfold Obligations.DelaySlot
  intro i s t d hdret
  rw [State.control_slot hdret, cyclesIn_traits]
  constructor
  · intro hfull
    rw [State.endSlot_full hfull]
    exact ⟨rfl, jumpBack_lc t d.target, rfl, jumpBack_level t d.target⟩
  · exact fun hwaiting => State.endSlot_waiting hwaiting

end Sys2Proof.Proofs

namespace Sys2Proof.Machine

open Sys2Proof.Claim

/-! ### The configuration registers, in integers (R27, R456, R457) -/

/-- MODx above and STEPx below, put together. -/
theorem Word.append_eq_ofNat (m : BitVec 9) (q : BitVec 7) : m ++ q = BitVec.ofNat 16 (m.toNat * 128 + q.toNat) := by
  apply BitVec.eq_of_toNat_eq
  have hm := m.isLt
  have hq := q.isLt
  rw [BitVec.toNat_append, ← Nat.shiftLeft_add_eq_or_of_lt hq, Nat.shiftLeft_eq, BitVec.toNat_ofNat]
  omega

/-- Loading MODx leaves STEPx (R456). -/
theorem Word.load_mod (v : BitVec 9) (cfg : Word) :
    v ++ cfg.extractLsb' 0 7 = BitVec.ofNat 16 (v.toNat * 128 + cfg.toNat % 128) := by
  rw [Word.append_eq_ofNat, BitVec.extractLsb'_toNat, Nat.shiftRight_zero]

/-- Loading STEPx leaves MODx (R457). -/
theorem Word.load_step (cfg : Word) (v : BitVec 7) :
    cfg.extractLsb' 7 9 ++ v = BitVec.ofNat 16 (cfg.toNat / 128 * 128 + v.toNat) := by
  rw [Word.append_eq_ofNat, ← modOf, modOf_eq_div]

/-! ### `modr` and the writes of the pointers (R105, R451) -/

theorem State.setPtr_eq_pointersWith (s : State) (n : RN) (v : Word) :
    s.setPtr n v = { s with dau := pointersWith s.dau n v } := by
  cases n <;> rfl

/-- With dmod the post-modification is linear, and R describes the new pointer (R451). -/
theorem modifyPointer_eq (dmod : Bool) (n : RN) (m : PostMod) (s : State) :
    modifyPointer dmod n m s = .next
      { s.setPtr n (nextPointer s n m (s.moduloOn n && !dmod)) with
        flags := { s.flags with r := decide (nextPointer s n m (s.moduloOn n && !dmod) = 0) } } := by
  rw [modifyPointer, State.postMod_eq_nextPointer, Bool.and_comm]
  dsimp only
  rw [State.setPtr_flags, beq_eq_decide]

/-! ### `trap` (R454, R508, R513) -/

/-- The entry that `trap` makes has no context switch, saves no repeat and leaves IE. -/
theorem enter_trap (s : State) :
    enter .trap s = push s s.pc fun t => .next
      { t with
        pc := 2
        dvm := s.pc
        svc := { t.svc with inTrap := true, atVector := false }
        out := { t.out with ack := true, sft := true } } := by
  simp [enter, Source.switches, Source.vector]

theorem takeTrap_of_outside (h : s.svc.inTrap = false) : takeTrap s = enter .trap s :=
  if_neg (ne_true_of_eq_false h)

theorem takeTrap_of_inTrap (h : s.svc.inTrap = true) : takeTrap s = .refused .trapInTrap := if_pos h

/-! ### The context switch (R460 to R463) -/

theorem State.contextStore_eq_saved (s : State) : s.contextStore = saved s := by
  rw [State.contextStore, Flags.setZMNE_eq_zmne]
  rfl

end Sys2Proof.Machine

/-! ### The obligations of 46_control.md -/

namespace Sys2Proof.Proofs

open Sys2Proof Sys2Proof.Machine Sys2Proof.Claim

/-- Settles O14: outside a TRAP/BI routine `trap` is the entry by a push; inside one it is refused before it pushes. -/
theorem trapEntry : Obligations.TrapEntry := by
  unfold Obligations.TrapEntry
  constructor
  · intro s houtside hwrite hwf
    have hexec : exec .trap s = enter .trap s := takeTrap_of_outside houtside
    rw [hexec, enter_trap, push_of_writable hwrite]
    exact ⟨_, rfl, stored_setWord hwf _ _, rfl⟩
  · exact fun s hinTrap => takeTrap_of_inTrap hinTrap

/-- Settles O55: `modr` and the post-modification of an operand write one pointer with the value of R105. -/
theorem modifyPointer : Obligations.ModifyPointer := by
  unfold Obligations.ModifyPointer
  refine ⟨modifyPointer_eq, fun n v s => s.setPtr_eq_pointersWith n v, fun n m s => ?_⟩
  rw [State.bump_eq_setPtr]
  exact ⟨rfl, State.ptr_setPtr s n _, fun k hk => State.ptr_setPtr_ne s _ hk⟩

/-- Settles O54: the loads of cfgi and cfgj replace one of the two fields; the others write the field they name. -/
theorem controlInstructions : Obligations.ControlInstructions := by
  unfold Obligations.ControlInstructions
  intro s
  refine ⟨rfl, rfl, rfl, fun v => rfl, fun v => rfl, ?modi, ?modj, ?stepi, ?stepj⟩
  case modi | modj =>
    intro v
    rw [← Word.load_mod]
    rfl
  case stepi | stepj =>
    intro v
    rw [← Word.load_step]
    rfl

/-- Settles O57: the shadow after a store holds what a restore takes back, and both exchange PAGE and a1 with b1. -/
theorem contextSwitch : Obligations.ContextSwitch := by
  unfold Obligations.ContextSwitch
  intro s
  have hstore : exec .cntxS s = .next (saved s) :=
    congrArg Host.Outcome.next s.contextStore_eq_saved
  have hrestore : exec .cntxR s = .next (restored s) :=
    congrArg Host.Outcome.next s.contextRestore_eq_restored
  exact ⟨hstore, hrestore, rfl, rfl, rfl, rfl⟩

end Sys2Proof.Proofs

namespace Sys2Proof.Machine

open Sys2Proof.Claim

section Fetching

/-! ### The fetch and the run of an instruction (R35, R96, R158, R503) -/

variable {s : State} {i : Instr} {a w v : Word} {r : Refusal}

theorem fetchWord_of_readable (h : s.progReadable a = true) (k : Word → Out) :
    fetchWord s a k = k (Memory.word s.pmem a) := by
  unfold State.progReadable at h; unfold fetchWord; split at h <;> simp_all

theorem fetchWord_of_device (h : regionKind s.chip.progMap a = .device) (k : Word → Out) :
    fetchWord s a k = .refused .progDevice := by simp only [fetchWord, h]

theorem fetchWord_of_nothing (h : regionKind s.chip.progMap a = .nothing) (k : Word → Out) :
    fetchWord s a k = .refused .progAbsent := by simp only [fetchWord, h]

theorem fetch_of_readable (h : s.progReadable s.pc = true)
    (hsecond : wordLength (Memory.word s.pmem s.pc) = 2 → s.progReadable (s.pc + 1) = true) (k : Word → Word → Out) :
    fetch s k = k (Memory.word s.pmem s.pc)
      (if wordLength (Memory.word s.pmem s.pc) = 2 then Memory.word s.pmem (s.pc + 1) else 0) := by
  rw [fetch, fetchWord_of_readable h]
  split_ifs with hlength
  · exact fetchWord_of_readable (hsecond hlength) _
  · rfl

/-- The fetch stops at the first word that it cannot read, be it the first or the second of the instruction. -/
theorem fetch_of_stop (hstop : ∀ k, fetchWord s a k = .refused r)
    (ha : a = s.pc ∨ s.progReadable s.pc = true ∧ wordLength (Memory.word s.pmem s.pc) = 2 ∧ a = s.pc + 1)
    (k : Word → Word → Out) : fetch s k = .refused r := by
  rcases ha with rfl | ⟨hfirst, hlength, rfl⟩
  · exact hstop _
  · rw [fetch, fetchWord_of_readable hfirst, if_pos hlength]
    exact hstop _

theorem runInstr_of_hazard_none (h : hazard (Instr.traits i) s.pc (s.begin (Instr.traits i).words) = none) :
    runInstr i s = finished (exec i (s.begin (Instr.traits i).words)) s (Instr.traits i) := by
  simp only [runInstr, h]
  rfl

theorem runInstr_of_hazard_some (h : hazard (Instr.traits i) s.pc (s.begin (Instr.traits i).words) = some r) :
    runInstr i s = .refused r := by
  simp only [runInstr, h]

/-- What a step does with the words it has fetched (R158). -/
def runWords (s : State) (w v : Word) : Out :=
  match decode w v with
  | .ok i => runInstr i s
  | .error e => .refused (DecodeError.refusal e w s.pc)

theorem runWords_of_ok (h : decode w v = .ok i) : runWords s w v = runInstr i s := by
  simp only [runWords, h]

theorem runWords_of_error {e : DecodeError} (h : decode w v = .error e) :
    runWords s w v = .refused (DecodeError.refusal e w s.pc) := by
  simp only [runWords, h]

/-- With no reset, no accepted request and no boot instruction to insert, a step fetches (R503, R603). -/
theorem step_eq_fetch (hreset : s.pins.reset = false) (haccepted : s.accepted = none)
    (hboot : s.svc.inBoot = false ∨ s.pc ≠ 0) : step s = fetch s (runWords s) := by
  have hinsert : (s.svc.inBoot && s.pc == 0) = false := by
    rwa [Bool.and_eq_false_iff, beq_eq_false_iff_ne]
  simp only [step, stepOnce, hreset, haccepted, hinsert]
  rfl

end Fetching

section Acceptance

/-! ### Which request a boundary accepts (R503, R504, R520) -/

variable {s : State} {k : Source}

theorem State.isOpen_eq_openFor (s : State) (k : Source) : s.isOpen k = openFor s k := by
  simp only [State.isOpen, openFor, Bool.or_comm, Bool.and_comm (x := s.loops.repSavedActive), beq_eq_decide]

/-- The source is requested and the boundary open for it. -/
def acceptable (s : State) (k : Source) : Bool := wanted s k && openFor s k

/-- The requests, as R504 orders them. -/
def requests : List Source := [.bi, .nmi, .int0, .int1, .int2]

/-- IE and the routine under way shut out the three maskable requests together (R503). -/
theorem wanted_maskable (s : State) :
    (wanted s .int0 = (s.stat.ie && !s.svc.inNmi && !s.svc.inTrap && (s.pins.int0 && s.stat.im0))) ∧
    (wanted s .int1 = (s.stat.ie && !s.svc.inNmi && !s.svc.inTrap && (s.pins.int1 && s.stat.im1))) ∧
    (wanted s .int2 = (s.stat.ie && !s.svc.inNmi && !s.svc.inTrap && (s.pins.int2 && s.stat.im2))) := by
  refine ⟨?_, ?_, ?_⟩ <;>
  · simp only [wanted]
    ac_rfl

theorem find?_cons_eq_ite (p : Source → Bool) (k : Source) (l : List Source) :
    (k :: l).find? p = if p k then some k else l.find? p := by
  cases hp : p k <;> simp [hp]

theorem State.accepted_eq_find (s : State) : s.accepted = requests.find? (acceptable s) := by
  obtain ⟨hint0, hint1, hint2⟩ := wanted_maskable s
  have hbi : wanted s .bi = (s.pins.bi && !s.svc.inTrap) := rfl
  have hnmi : wanted s .nmi = (s.pins.nmi && !s.svc.inNmi && !s.svc.inTrap) := by simp only [wanted]; ac_rfl
  simp only [State.accepted, State.isOpen_eq_openFor, requests, find?_cons_eq_ite, List.find?_nil, acceptable,
    hbi, hnmi, hint0, hint1, hint2]
  cases s.stat.ie && !s.svc.inNmi && !s.svc.inTrap with
  | true => simp only [Bool.true_and, if_true]
  | false => simp

/-- The first element with a property, in a list that stands in the order of R504. -/
theorem find?_eq_some_iff_of_ordered {p : Source → Bool} {l : List Source} (hl : l.Pairwise fun i j => rank i < rank j) :
    l.find? p = some k ↔ k ∈ l ∧ p k = true ∧ ∀ j ∈ l, rank j < rank k → p j = false := by
  induction l with
  | nil => simp
  | cons x xs ih =>
    obtain ⟨hx, hxs⟩ := List.pairwise_cons.1 hl
    cases hp : p x with
    | true =>
      rw [List.find?_cons_of_pos hp, Option.some.injEq]
      grind
    | false =>
      rw [List.find?_cons_of_neg (by simp [hp]), ih hxs]
      grind

theorem mem_requests_of_acceptable (h : acceptable s k = true) : k ∈ requests := by
  cases k with
  | trap => simp [acceptable, wanted] at h
  | _ => decide

theorem State.accepted_eq_some_iff :
    s.accepted = some k ↔ acceptable s k = true ∧ ∀ j, rank j < rank k → acceptable s j = false := by
  rw [State.accepted_eq_find, find?_eq_some_iff_of_ordered (by decide)]
  constructor
  · rintro ⟨-, hk, hfirst⟩
    refine ⟨hk, fun j hj => ?_⟩
    by_contra hacc
    have hacc : acceptable s j = true := by simpa using hacc
    rw [hfirst j (mem_requests_of_acceptable hacc) hj] at hacc
    cases hacc
  · exact fun ⟨hk, hfirst⟩ => ⟨mem_requests_of_acceptable hk, hk, fun j _ => hfirst j⟩

theorem State.accepted_eq_none (h : ∀ k, acceptable s k = false) : s.accepted = none := by
  rw [State.accepted_eq_find]
  exact List.find?_eq_none.2 fun k _ => by simp [h]

theorem wanted_of_inTrap (h : s.svc.inTrap = true) (k : Source) : wanted s k = false := by
  cases k <;> simp [wanted, h]

/-- In an NMI routine only BI is wanted (R503). -/
theorem eq_bi_of_wanted (h : s.svc.inNmi = true) (hk : wanted s k = true) : k = .bi := by
  cases k with
  | bi => rfl
  | _ => simp [wanted, h] at hk

theorem hold_and_started_of_open (h : openFor s k = true) :
    s.svc.hold.of k = 0 ∧ (k = .bi ∨ s.svc.started = true) := by
  simp only [openFor, Bool.and_eq_true, Bool.or_eq_true, beq_iff_eq, decide_eq_true_eq] at h
  obtain ⟨⟨⟨⟨⟨hstarted, -⟩, -⟩, -⟩, hhold⟩, -⟩ := h
  exact ⟨hhold, hstarted⟩

theorem State.acceptable_of_accepted (h : s.accepted = some k) : wanted s k = true ∧ openFor s k = true := by
  obtain ⟨hk, -⟩ := State.accepted_eq_some_iff.1 h
  rwa [acceptable, Bool.and_eq_true] at hk

/-- `trap` is an instruction, no request (R501). -/
theorem State.accepted_ne_trap (h : s.accepted = some k) : k ≠ .trap := by
  rintro rfl
  obtain ⟨hwanted, -⟩ := State.acceptable_of_accepted h
  cases hwanted

end Acceptance

section Holding

/-! ### How long an instruction holds a source off (R522, R523) -/

variable {i : Instr} {s t : State} {k : Source} {r : Reg}

@[simp] theorem holdOf_max (g h : Holds) (k : Source) : (g.max h).of k = max (g.of k) (h.of k) := by
  cases k <;> rfl

@[simp] theorem holdOf_less (h : Holds) (c : Nat) (k : Source) : (h.less c).of k = h.of k - c := by
  cases k <;> simp [Holds.less, Holds.of]

/-- The instruction is conditional and its condition false. -/
def Traits.misses (tr : Traits) (s : State) : Bool :=
  match tr.takenCond with
  | some c => !condHolds c s.flags s.pins
  | none => false

/-- The maskable sources INT0, INT1, INT2. -/
def Source.maskable (k : Source) : Bool := k == .int0 || k == .int1 || k == .int2

/-- A row of Table 5B: under its condition these sources are held off for n cycles. -/
def holdRow (c : Bool) (among : Source → Bool) (n : Nat) : Holds :=
  let held (k : Source) : Nat := if among k then n else 0
  if c then { int0 := held .int0, int1 := held .int1, int2 := held .int2, nmi := held .nmi, bi := held .bi }
  else Holds.zero

theorem holdRow_of (hk : k ≠ .trap) (c : Bool) (among : Source → Bool) (n : Nat) :
    (holdRow c among n).of k = if c && among k then n else 0 := by
  cases k with
  | trap => contradiction
  | _ => cases c <;> rfl

theorem Traits.delay_eq_rows (tr : Traits) (s : State) (lastRep first : Bool) :
    tr.delay s lastRep first =
      (((holdRow (tr.misses s || tr.writesVia [.mov, .movp, .rmw] .sp || lastRep || first) (· != .bi) 1).max
          (holdRow (lastRep && s.loops.repSavedActive) (fun _ => true) 1)).max
        ((holdRow (tr.writesVia [.mov, .movp, .rmw, .pop] .st0) Source.maskable 2).max
          (holdRow (tr.writesVia [.mov, .movp, .rmw, .pop] .st2) (· == .int2) 2))).max
      (((holdRow (tr.writesVia [.movLong] .st0) Source.maskable 1).max
          (holdRow (tr.writesVia [.movLong] .st2) (· == .int2) 1)).max
        (((holdRow (tr.kind == .delayedReturn || tr.writesVia [.mov, .movp, .pop] .pc) (fun _ => true) 2).max
          (holdRow (tr.writesVia [.movLong] .pc) (fun _ => true) 1)).max
          (holdRow (tr.kind == .rep) (fun _ => true) 2))) := rfl

/-- The longest row of Table 5B that applies to an instruction with these traits (R522). -/
def Traits.tableHold (tr : Traits) (s : State) (k : Source) : Nat :=
  if tr.kind == .rep || tr.kind == .delayedReturn || tr.writesVia [.mov, .movp, .pop] .pc then 2
  else if k.maskable && tr.writesVia [.mov, .movp, .rmw, .pop] .st0 then 2
  else if k == .int2 && tr.writesVia [.mov, .movp, .rmw, .pop] .st2 then 2
  else if tr.writesVia [.movLong] .pc then 1
  else if k.maskable && tr.writesVia [.movLong] .st0 then 1
  else if k == .int2 && tr.writesVia [.movLong] .st2 then 1
  else if k != .bi && (tr.misses s || tr.writesVia [.mov, .movp, .rmw] .sp) then 1
  else 0

/-- What a repetition that ends and the return from a TRAP/BI routine hold off besides (R520 f, R522, R523). -/
def extraHold (s : State) (lastRep first : Bool) (k : Source) : Nat :=
  if (if k == .bi then lastRep && s.loops.repSavedActive else lastRep || first) then 1 else 0

theorem le_ite_of_le {m n x : Nat} {c : Prop} [Decidable c] (h : n ≤ m) :
    (n ≤ if c then m else x) ↔ c ∨ n ≤ x := by
  by_cases hc : c <;> simp [hc, h]

theorem le_ite_of_lt {m n x : Nat} {c : Prop} [Decidable c] (h : m < n) :
    (n ≤ if c then m else x) ↔ ¬ c ∧ n ≤ x := by
  by_cases hc : c <;> simp [hc, h]

/-- The hold of a source is the longest row that names it. Two numbers of cycles agree when they reach the same bounds, here
none, one, two and no more. -/
theorem Traits.delay_of (tr : Traits) (s : State) (lastRep first : Bool) (hk : k ≠ .trap) :
    (tr.delay s lastRep first).of k = max (extraHold s lastRep first k) (tr.tableHold s k) := by
  rw [Traits.delay_eq_rows]
  simp only [holdOf_max, holdRow_of hk, extraHold, Traits.tableHold]
  refine eq_of_forall_le_iff fun n => ?_
  match n with
  | 0 => simp
  | 1 =>
    simp only [le_max_iff, le_ite_of_le (Nat.le_refl 1), le_ite_of_le one_le_two]
    grind
  | 2 =>
    simp only [le_max_iff, le_ite_of_le (Nat.le_refl 2), le_ite_of_lt one_lt_two]
    grind
  | n + 3 =>
    have h1 : 1 < n + 3 := by omega
    have h2 : 2 < n + 3 := by omega
    simp [le_ite_of_lt h1, le_ite_of_lt h2]

/-- The way in which an instruction with a `softDest` writes it. -/
def softVia (i : Instr) : DestVia :=
  match i with
  | .movpLowReg _ _ => .movp
  | _ => if isRewrite i then .rmw else .mov

/-- The instruction is `pop r`. -/
def pops (i : Instr) (r : Reg) : Bool := match i with | .popReg q => q == r | _ => false

/-- The instruction is `mov ##long immediate, r`. -/
def loadsLong (i : Instr) (r : Reg) : Bool := match i with | .movLongReg q _ => q == r | _ => false

/-- The instruction is a branch, a call or a return whose condition is false. -/
def misses (i : Instr) (s : State) : Bool :=
  match i with
  | .br c _ | .call c _ | .ret c | .reti _ c => !holds c s
  | _ => false

theorem tableHold_eq (i : Instr) (s : State) (k : Source) :
    tableHold i s k =
      if repeats i || delays i || (softDest i == some .pc && !isRewrite i) || pops i .pc then 2
      else if k.maskable && (softDest i == some .st0 || pops i .st0) then 2
      else if k == .int2 && (softDest i == some .st2 || pops i .st2) then 2
      else if loadsLong i .pc then 1
      else if k.maskable && loadsLong i .st0 then 1
      else if k == .int2 && loadsLong i .st2 then 1
      else if k != .bi && (misses i s || softDest i == some .sp) then 1
      else 0 := rfl

theorem kind_rep (i : Instr) : ((Instr.traits i).kind == .rep) = repeats i := by
  cases i <;> rfl

theorem kind_delayedReturn (i : Instr) : ((Instr.traits i).kind == .delayedReturn) = delays i := by
  cases i <;> rfl

theorem misses_traits (i : Instr) (s : State) : (Instr.traits i).misses s = misses i s := by
  cases i with
  | br c | call c | ret c | reti _ c => exact congrArg not (holds_eq_condHolds c s).symm
  | _ => rfl

/-- The registers whose writes Table 5B names. -/
def InTable (r : Reg) : Prop := r = .pc ∨ r = .sp ∨ r = .st0 ∨ r = .st2

/-- How an instruction writes a register that the table names: by its `softDest`, by a `pop`, or from a long immediate. The
short immediates and the direct loads of a pointer reach r0 to r5, sv and extX alone. -/
theorem writesVia_traits (hr : InTable r) (i : Instr) (vs : List DestVia) :
    (Instr.traits i).writesVia vs r =
      (softDest i == some r && vs.contains (softVia i) || pops i r && vs.contains .pop ||
        loadsLong i r && vs.contains .movLong) := by
  cases i with
  | movDirectRn n _ | movShortRn n _ => rcases hr with rfl | rfl | rfl | rfl <;> cases n <;> rfl
  | movShortExt e _ => rcases hr with rfl | rfl | rfl | rfl <;> cases e <;> rfl
  | movShortSv _ => rcases hr with rfl | rfl | rfl | rfl <;> rfl
  | setReg | rstReg | chngReg | addvReg | subvReg | movRegReg | movMixpReg | movIndReg | movSpReg | movpLowReg | popReg
  | movLongReg =>
    simp [Instr.traits, Traits.writesVia, softDest, softVia, isRewrite, pops, loadsLong]
  | _ => rfl

theorem softVia_cases (i : Instr) :
    isRewrite i = true ∧ softVia i = .rmw ∨ isRewrite i = false ∧ (softVia i = .mov ∨ softVia i = .movp) := by
  unfold softVia
  split
  · exact .inr ⟨rfl, .inr rfl⟩
  · cases isRewrite i with
    | true => exact .inl ⟨rfl, rfl⟩
    | false => exact .inr ⟨rfl, .inl rfl⟩

theorem contains_softVia {vs : List DestVia} (hmov : vs.contains .mov = true) (hmovp : vs.contains .movp = true)
    (i : Instr) : vs.contains (softVia i) = (!isRewrite i || vs.contains .rmw) := by
  rcases softVia_cases i with ⟨hrewrite, hvia⟩ | ⟨hrewrite, hvia | hvia⟩ <;> rw [hrewrite, hvia]
  · rfl
  · exact hmov
  · exact hmovp

/-- The rows of the table, read off the traits, are those read off the instruction. -/
theorem tableHold_traits (i : Instr) (s : State) (k : Source) :
    (Instr.traits i).tableHold s k = tableHold i s k := by
  have hpc : InTable .pc := .inl rfl
  have hst0 : InTable .st0 := .inr (.inr (.inl rfl))
  have hst2 : InTable .st2 := .inr (.inr (.inr rfl))
  have hlong {r : Reg} (hr : InTable r) :
      (Instr.traits i).writesVia [.movLong] r = loadsLong i r := by
    have hvia : [DestVia.movLong].contains (softVia i) = false := by
      rcases softVia_cases i with ⟨-, hvia⟩ | ⟨-, hvia | hvia⟩ <;> rw [hvia] <;> rfl
    rw [writesVia_traits hr, hvia]
    simp
  have hstatus {r : Reg} (hr : InTable r) :
      (Instr.traits i).writesVia [.mov, .movp, .rmw, .pop] r = (softDest i == some r || pops i r) := by
    rw [writesVia_traits hr, contains_softVia rfl rfl]
    simp
  have hjump : (Instr.traits i).writesVia [.mov, .movp, .pop] .pc =
      (softDest i == some .pc && !isRewrite i || pops i .pc) := by
    rw [writesVia_traits hpc, contains_softVia rfl rfl]
    simp
  have hstack : (Instr.traits i).writesVia [.mov, .movp, .rmw] .sp = (softDest i == some .sp) := by
    rw [writesVia_traits (.inr (.inl rfl)), contains_softVia rfl rfl]
    simp
  rw [Traits.tableHold, tableHold_eq, kind_rep, kind_delayedReturn, misses_traits, hjump, hstack, hstatus hst0, hstatus hst2,
    hlong hpc, hlong hst0, hlong hst2]
  simp only [Bool.or_assoc]

theorem extraHold_none (s : State) (k : Source) : extraHold s false false k = 0 := by
  simp [extraHold]

theorem extraHold_of_ne_bi {lastRep first : Bool} (hk : k ≠ .bi) (h : lastRep = true ∨ first = true) :
    extraHold s lastRep first k = 1 := by
  simp [extraHold, hk, h]

theorem extraHold_bi (s : State) (lastRep first : Bool) :
    extraHold s lastRep first .bi = if lastRep && s.loops.repSavedActive then 1 else 0 := rfl

/-- The hold that an instruction leaves, with `lastRep` for the last repetition (R523). -/
theorem State.finish_hold (t : State) {lastRep : Bool} (hk : k ≠ .trap)
    (hlast : lastRep = true ↔ lastRepetition i s t) :
    (t.finish s (Instr.traits i)).svc.hold.of k =
      max (s.svc.hold.of k - (Instr.traits i).cyclesIn s)
        (max (extraHold s lastRep s.svc.afterTrap k) (tableHold i s k)) := by
  have hrecord : (s.loops.repActive && (t.control s (Instr.traits i) s.pc).loops.repActive == false) = lastRep := by
    rw [Bool.eq_iff_iff, hlast, lastRepetition, Bool.and_eq_true, beq_iff_eq]
  rw [← hrecord, ← tableHold_traits, ← Traits.delay_of _ _ _ _ hk, ← holdOf_less, ← holdOf_max]
  rfl

end Holding

section Entry

/-! ### The entry of an accepted request (R505 to R507, R509, R513) -/

variable {s : State} {k : Source}

theorem Source.vector_eq_vectorOf (k : Source) : k.vector = vectorOf k := by
  cases k <;> rfl

/-- The context-switch enables of R73, source by source. -/
theorem Source.switches_iff (k : Source) (c : BitVec 4) :
    k.switches c = true ↔ (k = .nmi ∧ c.getLsbD 0 = true) ∨ (k = .int0 ∧ c.getLsbD 1 = true) ∨
      (k = .int1 ∧ c.getLsbD 2 = true) ∨ (k = .int2 ∧ c.getLsbD 3 = true) := by
  cases k <;> simp [Source.switches]

theorem step_of_accepted (hreset : s.pins.reset = false) (h : s.accepted = some k) :
    step s = enter k { s with out := Outputs.quiet } := by
  simp only [step, stepOnce, hreset, h]
  rfl

/-- The context as an entry leaves it: stored where the source's enable is in effect (R507). -/
def entryContext (k : Source) (s : State) : State := if k.switches s.svc.icrCtx then saved s else s

/-- What the entry of a request leaves, with the return address pushed to ram. -/
def entered (k : Source) (s : State) : State :=
  let u := entryContext k s
  { u with
    pc := vectorOf k
    dau := { s.dau with sp := s.dau.sp - 1 }
    dmem := Memory.setWord s.dmem (s.dau.sp - 1) s.pc
    loops := putAside s.loops s.pc
    stat := { u.stat with ie := if k = .int0 ∨ k = .int1 ∨ k = .int2 then false else s.stat.ie }
    dvm := if k = .bi then s.pc + 1 else s.dvm
    svc := { s.svc with inNmi := s.svc.inNmi || k = .nmi, inTrap := s.svc.inTrap || k = .bi, atVector := true,
                        prev := Previous.zero }
    out := { ack := true, sft := false, bus := [] } }

theorem enter_of_writable (hk : k ≠ .trap) (h : s.writable (s.dau.sp - 1) = true) :
    enter k { s with out := Outputs.quiet } = .next (entered k s) := by
  refine (push_of_writable (s := { s with out := Outputs.quiet }) h _).trans ?_
  rw [entered, entryContext, ← Source.vector_eq_vectorOf, ← State.contextStore_eq_saved]
  simp only [hk, ne_eq, not_false_eq_true, decide_true, decide_false, Bool.or_false, if_false]
  cases k.switches s.svc.icrCtx <;> rfl

end Entry

end Sys2Proof.Machine

/-! ### The obligations of 60_exceptions.md -/

namespace Sys2Proof.Proofs

open Sys2Proof Sys2Proof.Machine Sys2Proof.Claim

/-- Settles O5: a step fetches, and then runs or refuses what it has fetched. -/
theorem stepRunsDecoded : Obligations.StepRunsDecoded := by
  unfold Obligations.StepRunsDecoded
  intro s w v hreset haccepted hboot hw hv
  subst hw hv
  rw [step_eq_fetch hreset haccepted hboot]
  refine ⟨fun hfirst hsecond => ?_, fun a ha => ?_⟩
  · rw [fetch_of_readable hfirst hsecond]
    refine ⟨fun i hdecode => ?_, runWords_of_error, runWords_of_error, runWords_of_error⟩
    rw [runWords_of_ok hdecode]
    exact ⟨runInstr_of_hazard_none, fun r => runInstr_of_hazard_some⟩
  · exact ⟨fun hdevice => fetch_of_stop (fetchWord_of_device hdevice) ha _,
      fun hnothing => fetch_of_stop (fetchWord_of_nothing hnothing) ha _⟩

/-- Settles O11: the accepted request is the first acceptable one; each of the other clauses says of which requests it can be
none. -/
theorem acceptance : Obligations.Acceptance := by
  unfold Obligations.Acceptance
  intro s
  refine ⟨fun k => ?first, s.isOpen_eq_openFor, fun htrap => ?inTrap, fun hdret => ?waiting, fun hrep hsaved => ?nested,
    fun hnmi => ?inNmi, fun k hk => ?held⟩
  case first =>
    simp only [State.accepted_eq_some_iff, acceptable, Bool.and_eq_true, Bool.and_eq_false_iff, and_assoc]
  case inTrap =>
    refine State.accepted_eq_none fun k => ?_
    rw [acceptable, wanted_of_inTrap htrap, Bool.false_and]
  case waiting =>
    refine State.accepted_eq_none fun k => ?_
    simp [acceptable, openFor, Option.isNone_eq_false_iff.2 hdret]
  case nested =>
    refine State.accepted_eq_none fun k => ?_
    simp [acceptable, openFor, hrep, hsaved]
  case inNmi =>
    cases hk : s.accepted with
    | none => exact .inl rfl
    | some k =>
      obtain ⟨hwanted, -⟩ := State.acceptable_of_accepted hk
      exact .inr (congrArg some (eq_bi_of_wanted hnmi hwanted))
  case held =>
    obtain ⟨-, hopen⟩ := State.acceptable_of_accepted hk
    exact hold_and_started_of_open hopen

/-- Settles O12: the step is the entry, and the entry is a push to the ram below sp. -/
theorem interruptEntry : Obligations.InterruptEntry := by
  unfold Obligations.InterruptEntry
  intro s k hreset haccepted hwrite hwf
  have hstep : step s = .next (entered k s) :=
    (step_of_accepted hreset haccepted).trans (enter_of_writable (State.accepted_ne_trap haccepted) hwrite)
  refine ⟨entered k s, entryContext k s, hstep, stored_setWord hwf _ _, ?_, rfl⟩
  exact if_congr (Source.switches_iff k s.svc.icrCtx) rfl rfl

/-- Settles O13, from the one equation for the hold that an instruction leaves: the clauses name what it adds to the table. -/
theorem holdCounters : Obligations.HoldCounters := by
  unfold Obligations.HoldCounters
  intro i s t k hk
  classical
  have hhold := State.finish_hold t hk (decide_eq_true_iff (p := lastRepetition i s t))
  rw [hhold]
  refine ⟨fun hlast hfirst => ?_, fun hbi hone => ?_, ?_, ?_⟩
  · rw [decide_eq_false hlast, hfirst, extraHold_none, Nat.zero_max]
  · rw [extraHold_of_ne_bi hbi (hone.imp_left decide_eq_true)]
  · rintro rfl hlast hsaved
    rw [extraHold_bi, decide_eq_true hlast, hsaved]
    rfl
  · rintro rfl hnot
    rw [extraHold_bi, if_neg (by simpa using hnot), Nat.zero_max]

end Sys2Proof.Proofs
